-- ==== Sys2Proof/Word.lean ====
section
/-! DEFINITION. The word types of the LT-816 manual, and a family of eight like values, one for each feed line. -/

namespace Sys2Proof

/-- One byte of a frame, of a page or of the configuration image. -/
abbrev Byte := BitVec 8

/-- A 48-bit factory identity, which is also the station's own Ethernet address (R160). -/
abbrev Identity := BitVec 48

/-- A set of the fifteen alert conditions: bit k stands for the k-th condition of section 10.6 (R196). -/
abbrev CondSet := BitVec 15

/-- A feed line, 0 to 7 (00 section 5.5). -/
abbrev Line := Fin 8

/-- One value for each of the eight feed lines. -/
structure PerLine (α : Type) where
  l0 : α
  l1 : α
  l2 : α
  l3 : α
  l4 : α
  l5 : α
  l6 : α
  l7 : α
deriving DecidableEq, Repr

/-- The same value on every line. -/
def PerLine.all {α : Type} (x : α) : PerLine α := ⟨x, x, x, x, x, x, x, x⟩

/-- The value of line `i`. -/
def PerLine.get {α : Type} (p : PerLine α) (i : Line) : α :=
  match i with
  | 0 => p.l0
  | 1 => p.l1
  | 2 => p.l2
  | 3 => p.l3
  | 4 => p.l4
  | 5 => p.l5
  | 6 => p.l6
  | 7 => p.l7

/-- `p` with the value of line `i` replaced. -/
def PerLine.set {α : Type} (p : PerLine α) (i : Line) (x : α) : PerLine α :=
  match i with
  | 0 => { p with l0 := x }
  | 1 => { p with l1 := x }
  | 2 => { p with l2 := x }
  | 3 => { p with l3 := x }
  | 4 => { p with l4 := x }
  | 5 => { p with l5 := x }
  | 6 => { p with l6 := x }
  | 7 => { p with l7 := x }

/-- `p` with `f` applied to the value of every line. -/
def PerLine.map {α β : Type} (f : α → β) (p : PerLine α) : PerLine β :=
  ⟨f p.l0, f p.l1, f p.l2, f p.l3, f p.l4, f p.l5, f p.l6, f p.l7⟩

/-- The eight values, line 0 first. -/
def PerLine.toList {α : Type} (p : PerLine α) : List α :=
  [p.l0, p.l1, p.l2, p.l3, p.l4, p.l5, p.l6, p.l7]

end Sys2Proof
end

