-- ==== Sys2Proof/Config.lean ====
section
/-! DEFINITION. What the part fixes (the sizes and limits the manual gives) and what a configuration image sets
(sections 1.1, 3.1, 4.1, 9.3 and 12.6). The model needs no free value: see NOTES.md. -/

namespace Sys2Proof.Config

/-- Local ticks in a microsecond and in a millisecond (R16). -/
def ticksPerUs : Nat := 250
def ticksPerMs : Nat := 250000

/-- The largest value of a 32-bit counter, at which it saturates (00 section 5.6). -/
def counterMax : Nat := 4294967295

/-- Quarter nanoseconds in a second. -/
def quartersPerSec : Nat := 4000000000

/-- Units of 2^-32 ns in a quarter nanosecond and in a second (section 2.2). -/
def unitsPerQuarter : Nat := 1073741824
def unitsPerSec : Nat := 4294967296000000000

/-- The seconds field counts modulo 2^48 (R17). -/
def secondsModulus : Nat := 281474976710656

/-- The increment of one local tick at the nominal rate, 4 ns (section 2.2). -/
def nominalIncrement : Nat := 17179869184

/-- Pages of the Page Pool, bytes in a page, and pages one line may hold (R123). -/
def poolPages : Nat := 4096
def pageBytes : Nat := 256
def lineQuota : Nat := 1024

/-- Depth limits: publication queue (R137), receive queue (R163), request and response queues (R169, R172). -/
def queueLimit : Nat := 1024
def rxLimit : Nat := 64
def requestLimit : Nat := 2
def responseLimit : Nat := 4

/-- Depths at which the Publisher enters SHEDDING and returns to NORMAL (R142, R145). -/
def shedDepth : Nat := 768
def normalDepth : Nat := 256

/-- Most records, and most bytes of records, of a publication frame (R147). -/
def frameRecords : Nat := 16
def frameBytes : Nat := 8960

/-- Gap list and range log sizes (R76, R77). -/
def gapLimit : Nat := 8
def logLimit : Nat := 64

/-- Sample ring and departure history sizes (R44, R36). -/
def ringLimit : Nat := 8
def historyLimit : Nat := 32

/-- The pulse window, 1.1 s in local ticks (section 2.8). -/
def pulseWindowTicks : Nat := 275000000

/-- The header window of a feed frame, and the last byte offered to the Page Pool (section 1.4, R7). -/
def windowBytes : Nat := 160
def offerLimit : Nat := 1536

/-- Start-up values of the receive filter while no image is in force (section 9.3). -/
def startupType : Nat := 0x88B5
def startupGroup : Identity := BitVec.allOnes 48

end Sys2Proof.Config

namespace Sys2Proof.Machine

/-- Byte order of a feed's sequence and count fields (section 4.1). -/
inductive ByteOrder where
  | big
  | little
deriving DecidableEq, Repr

/-- How much of each frame goes out with its record (section 4.1). -/
inductive Carriage where
  | none
  | header
  | full
deriving DecidableEq, Repr

/-- One entry of the feed map (section 4.1). -/
structure FeedCfg where
  /-- cage feed number, 0 to 255 -/
  feed : Nat
  /-- destination group address, as a 32-bit number -/
  group : Nat
  /-- UDP destination port -/
  port : Nat
  aLine : Line
  bLine : Option Line
  seqOffset : Nat
  /-- sequence width in bytes, 4 or 8 -/
  seqWidth : Nat
  order : ByteOrder
  /-- absent: every packet carries a count of 1 -/
  countOffset : Option Nat
  carriage : Carriage
  /-- gap hold in microseconds -/
  gapHoldUs : Nat
  jumpLimit : Nat
  rewind : Nat
deriving DecidableEq, Repr

/-- The four fields of a line (section 1.1). -/
structure LineCfg where
  /-- latency trim in quarter ns -/
  trim : Nat := 0
  settleMs : Nat := 100
  settleLimit : Nat := 0
  silenceMs : Nat := 1000
deriving DecidableEq, Repr

/-- The image in force, less its feed entries (section 12.6), after clamping (R189). -/
structure ImageCfg where
  cageNumber : Nat
  typeCode : Nat
  group : Identity
  beaconMs : Nat
  agreeNs : Nat
  maxSlew : Nat
  minDelayNs : Nat
  maxDelayUs : Nat
  anchorEnabled : Bool
  captureUs : Nat
  batchUs : Nat
  enables : CondSet
  lines : PerLine LineCfg
deriving DecidableEq, Repr

end Sys2Proof.Machine
end

