-- ==== Sys2Proof/Syntax.lean ====
section
/-! DEFINITION. The commands of the block: one constructor for each row of spec/opcode_table.json, with the operands the
outside supplies (an input's value, or which of several like items the event concerns). -/

namespace Sys2Proof

/-- A maker of records: the Feed Classifier, the Sequence Arbiter, or the Publisher's own mark mechanism
(section 8.3). The Publisher takes the records of one maker in the order made (R141). -/
inductive Maker where
  | classifier
  | arbiter
  | marks
deriving DecidableEq, Repr

/-- A stored byte whose parity reads wrong at read-out (R133): the record's place in the frame, from 0, and the
byte's place in the record's chain, from 0. -/
structure Upset where
  record : Nat
  byte : Nat
deriving DecidableEq, Repr

/-- The blocks of 00 section 3, each Line Receiver on its own: what takes its part of a STATUS or a CLEAR_COUNTS at an event
of its own (R175, R177). -/
inductive Block where
  | loader
  | clock
  | agreement
  | line (i : Line)
  | classifier
  | arbiter
  | pool
  | publisher
  | port
  | requests
deriving DecidableEq, Repr

/-- The commands. -/
inductive Instr where
  /-- POWER_ON: `straps` is the level of the four strap pins (R187). -/
  | powerOn (straps : Fin 16)
  | linkUp (line : Line)
  | linkLoss (line : Line)
  | settleTimerExpiry (line : Line)
  | silenceTimerExpiry (line : Line)
  /-- START_DELIMITER: `phase` is the interpolator's reading at the line's sampling point (R25). -/
  | startDelimiter (line : Line) (phase : Fin 16)
  /-- FRAME_BYTE: a byte of the frame in flight, with a code error signalled inside it or not (R7). -/
  | frameByte (line : Line) (byte : Byte) (codeError : Bool)
  | frameEnd (line : Line)
  /-- CLASSIFY_HAND_OFF: the oldest hand-off of `line` is taken (R72). -/
  | classifyHandOff (line : Line)
  /-- LOCAL_ARRIVAL: the oldest classified arrival of `line` is taken (R74). -/
  | localArrival (line : Line)
  /-- GAP_EXPIRY: on the table of map index `index` (R95). -/
  | gapExpiry (index : Fin 32)
  /-- PEER_RECORD: the next record of the frame the arbiter holds (R102). -/
  | peerRecord
  /-- PULSE: a rising edge of the pulse input, sampled at `phase` of the tick `ago` ticks before the present one and taken now
  (R22, R23, R25, R29). -/
  | pulse (ago : Nat) (phase : Fin 16)
  | pulseWindowExpiry
  /-- STEP (R22). -/
  | clockStep
  | secondsWrite
  | beaconTimerExpiry
  | beaconTaken
  /-- SILENCE_DEADLINE: of the peer entry numbered `station` (R46). -/
  | silenceDeadline (station : Fin 16)
  | roundEnd
  /-- RECORD_TAKEN: the next record of `maker` (R141). -/
  | recordTaken (maker : Maker)
  | recordEntersFrame
  | batchTimerExpiry
  | markFire
  /-- TRANSMIT_CHOICE: `phase` dates a beacon's first byte (R27); `upsets` are the store faults a read-out meets. -/
  | transmitChoice (phase : Fin 16) (upsets : List Upset)
  | segmentTxEnd
  | segmentLinkUp
  | segmentLinkLoss
  /-- SEGMENT_FRAME_RECEIVED: every byte of the frame, the frame check sequence included, and whether a code error
  was signalled (R162). -/
  | segmentFrameReceived (bytes : List Byte) (codeError : Bool)
  /-- DISPATCH: `straps` is the level of the strap pins, read only when the frame carries a RESTART (R187). -/
  | dispatch (straps : Fin 16)
  /-- STATUS: the block named supplies its part of the report; with none, as where no
  operand is written, the response is formed (R175). -/
  | status (part : Option Block := none)
  | feedReport
  | peerReport
  /-- CLEAR_COUNTS: the block named zeroes its counters; with none, as where no
  operand is written, the response is formed (R177). -/
  | clearCounts (part : Option Block := none)
  | setSeconds
  | mark
  | cancelMark
  | setAlertEnables
  | ackAlerts
  | unknownRequest
  /-- IMAGE_READ_DONE: what the serial flash answered, from its first byte; past the list it reads as all ones (R188). -/
  | imageReadDone (flash : List Byte)
  | localTick
  | segmentStartDelimiter (phase : Fin 16)
deriving DecidableEq, Repr

/-- The row of spec/opcode_table.json a command stands for. -/
def Instr.mnemonic : Instr → String
  | .powerOn _ => "POWER_ON"
  | .linkUp _ => "LINK_UP"
  | .linkLoss _ => "LINK_LOSS"
  | .settleTimerExpiry _ => "SETTLE_TIMER_EXPIRY"
  | .silenceTimerExpiry _ => "SILENCE_TIMER_EXPIRY"
  | .startDelimiter _ _ => "START_DELIMITER"
  | .frameByte _ _ _ => "FRAME_BYTE"
  | .frameEnd _ => "FRAME_END"
  | .classifyHandOff _ => "CLASSIFY_HAND_OFF"
  | .localArrival _ => "LOCAL_ARRIVAL"
  | .gapExpiry _ => "GAP_EXPIRY"
  | .peerRecord => "PEER_RECORD"
  | .pulse _ _ => "PULSE"
  | .pulseWindowExpiry => "PULSE_WINDOW_EXPIRY"
  | .clockStep => "STEP"
  | .secondsWrite => "SECONDS_WRITE"
  | .beaconTimerExpiry => "BEACON_TIMER_EXPIRY"
  | .beaconTaken => "BEACON_TAKEN"
  | .silenceDeadline _ => "SILENCE_DEADLINE"
  | .roundEnd => "ROUND_END"
  | .recordTaken _ => "RECORD_TAKEN"
  | .recordEntersFrame => "RECORD_ENTERS_FRAME"
  | .batchTimerExpiry => "BATCH_TIMER_EXPIRY"
  | .markFire => "MARK_FIRE"
  | .transmitChoice _ _ => "TRANSMIT_CHOICE"
  | .segmentTxEnd => "SEGMENT_TX_END"
  | .segmentLinkUp => "SEGMENT_LINK_UP"
  | .segmentLinkLoss => "SEGMENT_LINK_LOSS"
  | .segmentFrameReceived _ _ => "SEGMENT_FRAME_RECEIVED"
  | .dispatch _ => "DISPATCH"
  | .status _ => "STATUS"
  | .feedReport => "FEED_REPORT"
  | .peerReport => "PEER_REPORT"
  | .clearCounts _ => "CLEAR_COUNTS"
  | .setSeconds => "SET_SECONDS"
  | .mark => "MARK"
  | .cancelMark => "CANCEL_MARK"
  | .setAlertEnables => "SET_ALERT_ENABLES"
  | .ackAlerts => "ACK_ALERTS"
  | .unknownRequest => "UNKNOWN_REQUEST"
  | .imageReadDone _ => "IMAGE_READ_DONE"
  | .localTick => "LOCAL_TICK"
  | .segmentStartDelimiter _ => "SEGMENT_START_DELIMITER"

end Sys2Proof
end

