-- ==== Sys2Proof/WellFormed.lean ====
section
/-! DEFINITION. Which commands are well formed. The operand types leave little to check: what remains is that a store
upset lies where a record of a publication frame can hold a byte. An ill-formed command still has its meaning: the parts
of it that name nothing have no effect. -/

namespace Sys2Proof

/-- A store upset names one of the 16 records of a frame and a byte of a chain of at most 6 pages (R132, section 7.1). -/
def Upset.wellFormed (u : Upset) : Bool :=
  decide (u.record < Config.frameRecords) && decide (u.byte < Config.offerLimit)

/-- The check over all commands. -/
def Instr.wellFormed : Instr → Bool
  | .transmitChoice _ upsets => upsets.all Upset.wellFormed
  | .powerOn _ | .linkUp _ | .linkLoss _ | .settleTimerExpiry _ | .silenceTimerExpiry _ => true
  | .startDelimiter _ _ | .frameByte _ _ _ | .frameEnd _ | .classifyHandOff _ | .localArrival _ => true
  | .gapExpiry _ | .peerRecord | .pulse _ _ | .pulseWindowExpiry | .clockStep | .secondsWrite => true
  | .beaconTimerExpiry | .beaconTaken | .silenceDeadline _ | .roundEnd | .recordTaken _ => true
  | .recordEntersFrame | .batchTimerExpiry | .markFire | .segmentTxEnd | .segmentLinkUp => true
  | .segmentLinkLoss | .segmentFrameReceived _ _ | .dispatch _ | .status _ | .feedReport => true
  | .peerReport | .clearCounts _ | .setSeconds | .mark | .cancelMark | .setAlertEnables => true
  | .ackAlerts | .unknownRequest | .imageReadDone _ | .localTick | .segmentStartDelimiter _ => true

end Sys2Proof
end

