-- ==== Sys2Proof/Decode.lean ====
section
/-! DEFINITION. Decoding table words. No row of spec/opcode_table.json gives bits: the commands are events, not words, so
no word spells a command. (What the station decodes are frames and the image: Machine/Receive.lean, Machine/LoaderCmds.lean.) -/

namespace Sys2Proof

/-- The command an instruction word spells by the table's bits: none, since no row of the table has any. -/
def decodeTableWord (_nbits _w : Nat) : Option Instr := none

end Sys2Proof
end

