-- ==== Sys2Proof/Machine/State.lean ====
section
/-! DEFINITION. The state of the station, block by block (00 section 3), as plain data, and its value after reset. -/

namespace Sys2Proof.Machine

/-- What stops the machine. The manual gives every event an effect, so no meaning of this model raises it; it is here
because the host's interface asks for a fault type. Safe: a run that never faults hides nothing, and no statement rests on it. -/
inductive Fault where
  /-- raised by no meaning; safe -/
  | stopped
deriving DecidableEq, Repr

/-- Why a command is refused. -/
inductive Refusal where
  /-- raised by an arm of `exec` whose command has no meaning yet; there is none; safe -/
  | notModelled (mnemonic : String)
deriving DecidableEq, Repr

/-! ### Cage time -/

/-- A cage time (00 section 5.2). A value read from a frame may carry nanoseconds at or above 10^9 (R196). -/
structure CageTime where
  sec : Nat := 0
  ns : Nat := 0
  quarter : Nat := 0
deriving DecidableEq, Repr

/-- The cage time accumulator (section 2.2): seconds, and nanoseconds in units of 2^-32 ns. -/
structure Accum where
  sec : Nat := 0
  units : Nat := 0
deriving DecidableEq, Repr

/-! ### The Loader -/

/-- The station state (section 11.1). -/
inductive StationState where
  | loading
  | halted
  | listen
  | acquire
  | serving
  | conflict
deriving DecidableEq, Repr

/-- Why an image was rejected (R188). -/
inductive RejectCause where
  | badTag
  | badLength
  | badCrc
  | badLine
  | sameLines
  | duplicateFeed
  | duplicateAddress
deriving DecidableEq, Repr

/-- The image status (section 11.1). -/
inductive ImageStatus where
  | loading
  | accepted
  | rejected (cause : RejectCause)
deriving DecidableEq, Repr

/-- The Loader's state (section 11.1), with the image in force less its feed entries. -/
structure Loader where
  state : StationState := .loading
  station : Nat
  identity : Identity
  imageStatus : ImageStatus := .loading
  clamped : Nat := 0
  restarts : Nat := 0
  config : Option ImageCfg := none
deriving DecidableEq, Repr

/-! ### The Station Clock -/

/-- The anchor state (section 2.8). -/
inductive AnchorState where
  | none
  | seeking
  | locked
  | lost
deriving DecidableEq, Repr

/-- What the Station Clock holds for the anchor (section 2.8). -/
structure Anchor where
  state : AnchorState := .none
  goodRun : Nat := 0
  failedRun : Nat := 0
  /-- the pulse window's deadline tick; none while it is stopped -/
  window : Option Nat := none
  latest : Option CageTime := none
  seen : Bool := false
  /-- the pending correction, quarter ns -/
  correction : Option Int := none
  pulses : Nat := 0
  bad : Nat := 0
  failed : Nat := 0
deriving DecidableEq, Repr

/-- What was done to cage time at a boundary. The model's own, for the late pulse and for "no step falls on that boundary"
(R22, R23). -/
structure BoundaryMove where
  step : Option Int := none
  seconds : Option Int := none
deriving DecidableEq, Repr

/-- A tick that has ended: its C_tick, the I in force during it (R25), and what was done at the boundary that began it. The
model's own, for the late pulse of R22 and R23 (log 6). -/
structure PastTick where
  acc : Accum
  incr : Nat
  move : BoundaryMove := {}
deriving DecidableEq, Repr

/-- A step asked for and not yet applied (R22): the correction in quarter ns, and whether its boundary has come. -/
structure PendingStep where
  correction : Int
  due : Bool := false
deriving DecidableEq, Repr

/-- A SET_SECONDS value handed over and not yet tested (R23), and whether its boundary has come. -/
structure PendingSeconds where
  value : Nat
  due : Bool := false
deriving DecidableEq, Repr

/-- The Station Clock. `rate` and `adj` are r and A in force (R19, R20). `past` holds the ticks that have ended while the anchor
was enabled, newest first, and `move` what was done at the latest boundary: the model's own, from which a pulse taken late is
dated (log 6). -/
structure Clock where
  tick : Nat := 0
  acc : Accum := {}
  freq : Int := 0
  slew : Int := 0
  rate : Int := 0
  adj : Int := 0
  past : List PastTick := []
  move : BoundaryMove := {}
  pendingStep : Option PendingStep := none
  pendingSeconds : Option PendingSeconds := none
  anchor : Anchor := {}
deriving DecidableEq, Repr

/-! ### The Agreement Unit -/

/-- The agreement state (section 3.2). -/
inductive AgreementState where
  | acquiring
  | anchored
  | alone
  | agreed
  | spread
deriving DecidableEq, Repr

/-- A two-way sample (R42): offset θ and delay δ in quarter ns, and the tick its beacon was taken. -/
structure Sample where
  offset : Int
  delay : Int
  tick : Nat
deriving DecidableEq, Repr

/-- The state of a peer table entry (section 3.5). -/
inductive EntryState where
  | heard
  | paired
  | silent
deriving DecidableEq, Repr

/-- The echo pair of a peer entry (section 3.5). -/
structure EchoPair where
  t1 : CageTime
  t2 : CageTime
deriving DecidableEq, Repr

/-- The counters of a peer entry: the eight of section 3.5 and the three of R166. -/
structure PeerCounts where
  heard : Nat := 0
  missed : Nat := 0
  accepted : Nat := 0
  staleEchoes : Nat := 0
  unknownEchoes : Nat := 0
  delayLow : Nat := 0
  delayHigh : Nat := 0
  identityChanges : Nat := 0
  pubFrames : Nat := 0
  missedFrames : Nat := 0
  numberFalls : Nat := 0
deriving DecidableEq, Repr

/-- A peer table entry (section 3.5). The three reported codes are held as received (R198). -/
structure Peer where
  station : Nat
  identity : Identity
  state : EntryState := .heard
  repState : Nat := 0
  repAgreement : Nat := 0
  repAnchor : Nat := 0
  repSpread : Nat := 0
  lastBeaconTick : Nat := 0
  lastBeaconNumber : Nat := 0
  echo : Option EchoPair := none
  ring : List Sample := []
  deadline : Nat := 0
  lastPubFrame : Option Nat := none
  counts : PeerCounts := {}
deriving DecidableEq, Repr

/-- An echo entry of a beacon (section 12.3). -/
structure EchoEntry where
  station : Nat
  t1 : CageTime
  t2 : CageTime
deriving DecidableEq, Repr

/-- The content of a beacon (R35, section 12.3) with the header's station number and identity. -/
structure Beacon where
  station : Nat
  identity : Identity
  state : Nat
  agreement : Nat
  anchor : Nat
  spread : Nat
  number : Nat
  departure : CageTime
  echoes : List EchoEntry
deriving DecidableEq, Repr

/-- A beacon dispatched to the Agreement Unit and not yet taken: with its arrival date, the tick of its hand-off (R164),
and whether its date was sampled before the latest step or accepted seconds write (R40). -/
structure BeaconIn where
  beacon : Beacon
  arrival : CageTime
  tick : Nat
  stale : Bool
deriving DecidableEq, Repr

/-- The conflict memory (section 3.4). -/
structure ConflictMemory where
  identity : Identity
  tick : Nat
deriving DecidableEq, Repr

/-- The Agreement Unit (sections 3.2, 3.4, 3.5, 3.8). -/
structure Agreement where
  beaconTimer : Option Nat := none
  roundTimer : Option Nat := none
  beaconDue : Bool := false
  beaconNumber : Nat := 0
  departures : List CageTime := []
  spread : Nat := 0
  correction : Int := 0
  agreement : AgreementState := .acquiring
  conflict : Option ConflictMemory := none
  peers : List Peer := []
  roundCount : Nat := 0
  beaconsSent : Nat := 0
  skipped : Nat := 0
  refused : Nat := 0
  conflicts : Nat := 0
  inbox : Option BeaconIn := none
  /-- the class to adopt on entering SERVING, while the ACQUIRE step waits for its boundary (R53) -/
  servingAfterStep : Option AgreementState := none
deriving DecidableEq, Repr

/-! ### Chains, frames in flight and hand-offs -/

/-- A byte in a page, with its parity bit (section 7.1). -/
structure Cell where
  byte : Byte
  parity : Bool
deriving DecidableEq, Repr

/-- A chain record (section 7.1). Each page is the list of the bytes stored in it. -/
structure Chain where
  line : Line
  pages : List (List Cell) := []
  stored : Nat := 0
  captured : Option Nat := none
  truncated : Bool := false
  held : Option Nat := none
deriving DecidableEq, Repr

/-- The cause of a failed frame check (R8). -/
inductive FailCause where
  | fcs
  | short
  | long
  | codeError
deriving DecidableEq, Repr

/-- The class of a frame (section 1.2). -/
inductive FrameClass where
  | settling
  | live
  | faulted
deriving DecidableEq, Repr

/-- One of the last four bytes received, with the CRC register as it stood before it (R8). -/
structure TailByte where
  before : BitVec 32
  byte : Byte
deriving DecidableEq, Repr

/-- A frame record (section 1.4). The captured length is set at the frame's end and goes with the hand-off (R8). -/
structure FrameRec where
  cls : FrameClass
  mark : Bool := false
  date : CageTime
  window : List Byte := []
  count : Nat := 0
  crc : BitVec 32 := BitVec.allOnes 32
  tail : List TailByte := []
  codeError : Bool := false
  chain : Option Chain := none
  truncated : Bool := false
deriving DecidableEq, Repr

/-- The state of a feed line (section 1.2). -/
inductive LineState where
  | down
  | settling
  | live
  | silent
  | faulted
deriving DecidableEq, Repr

/-- A Line Receiver (sections 1.2, 1.4, 1.6). -/
structure LineRx where
  state : LineState := .down
  settleErrors : Nat := 0
  settleTimer : Option Nat := none
  silenceTimer : Option Nat := none
  frame : Option FrameRec := none
  frames : Nat := 0
  fcsErrors : Nat := 0
  cut : Nat := 0
  preService : Nat := 0
  unmatched : Nat := 0
  truncated : Nat := 0
deriving DecidableEq, Repr

/-- A hand-off item (R10). -/
structure HandOff where
  line : Line
  date : CageTime
  length : Nat
  cause : Option FailCause
  window : List Byte
  chain : Option Chain
  captured : Nat
  truncated : Bool
deriving DecidableEq, Repr

/-- A classified arrival (R70). -/
structure Arrival where
  index : Nat
  feed : Nat
  line : Line
  date : CageTime
  first : Nat
  count : Nat
  length : Nat
  chain : Option Chain
  captured : Nat
  truncated : Bool
deriving DecidableEq, Repr

/-! ### Arbitration tables -/

/-- The winner of a range (section 5.1): station, line and date. -/
structure Winner where
  station : Nat
  line : Nat
  date : CageTime
deriving DecidableEq, Repr

/-- The kind of a range log entry (section 5.1). -/
inductive EntryKind where
  | localClaim
  | peerClaim
  | lateClaim
  | lost
deriving DecidableEq, Repr

/-- A range log entry (section 5.1); the winner is absent on LOST. -/
structure LogEntry where
  first : Nat
  last : Nat
  kind : EntryKind
  winner : Option Winner
deriving DecidableEq, Repr

/-- A gap (R76). -/
structure Gap where
  first : Nat
  last : Nat
  opened : Nat
  deadline : Nat
deriving DecidableEq, Repr

/-- The thirteen verdict names (section 12.4). -/
inductive Verdict where
  | first
  | fill
  | partialFill
  | late
  | reset
  | takeover
  | duplicate
  | keepalive
  | stale
  | wild
  | stray
  | malformed
  | damaged
deriving DecidableEq, Repr

/-- The local counters of a table (R99). -/
structure LocalCounts where
  first : Nat := 0
  fill : Nat := 0
  partialFill : Nat := 0
  late : Nat := 0
  reset : Nat := 0
  takeover : Nat := 0
  duplicate : Nat := 0
  keepalive : Nat := 0
  stale : Nat := 0
  wild : Nat := 0
  expired : Nat := 0
  evicted : Nat := 0
  resetGaps : Nat := 0
deriving DecidableEq, Repr

/-- The peer counters of a table (R120). -/
structure PeerClaimCounts where
  claims : Nat := 0
  entered : Nat := 0
  resets : Nat := 0
  wild : Nat := 0
  unrecorded : Nat := 0
  notEarlier : Nat := 0
  yieldsMade : Nat := 0
  replaced : Nat := 0
  yieldsApplied : Nat := 0
  yieldsIgnored : Nat := 0
  nonClaims : Nat := 0
  lost : Nat := 0
deriving DecidableEq, Repr

/-- An arbitration table (section 5.1). `high` is none while H is undefined. The log stands oldest first. -/
structure Table where
  high : Option Nat := none
  gaps : List Gap := []
  log : List LogEntry := []
  counts : LocalCounts := {}
  peer : PeerClaimCounts := {}
deriving DecidableEq, Repr

/-- The table state, which follows the table's contents (R75). -/
inductive TableState where
  | unsynced
  | inOrder
  | gapped
deriving DecidableEq, Repr

/-- The shed counts of a feed (section 8.1): the dates are the first and last shed date. -/
structure ShedCounts where
  duplicate : Nat := 0
  keepalive : Nat := 0
  stale : Nat := 0
  stray : Nat := 0
  dates : Option (CageTime × CageTime) := none
deriving DecidableEq, Repr

/-- What the Feed Classifier, the Sequence Arbiter and the Publisher keep for one feed map entry. -/
structure FeedSlot where
  cfg : FeedCfg
  damaged : Nat := 0
  stray : Nat := 0
  malformed : Nat := 0
  table : Table := {}
  shed : ShedCounts := {}
deriving DecidableEq, Repr

/-- A publication frame the Sequence Arbiter holds: the publishing station and the records not yet taken (R102). -/
structure PeerFrame where
  station : Nat
  records : List (List Byte)
deriving DecidableEq, Repr

/-- The Sequence Arbiter's frame at hand and station counters (R121). -/
structure Arbiter where
  frame : Option PeerFrame := none
  misnumbered : Nat := 0
  outOfService : Nat := 0
  refused : Nat := 0
  passedOver : Nat := 0
deriving DecidableEq, Repr

/-! ### The Page Pool -/

/-- The Page Pool (section 7.1): the count of the free list, each line's held count, the low mark and the counters. -/
structure Pool where
  free : Nat := Config.poolPages
  held : PerLine Nat := PerLine.all 0
  low : Nat := Config.poolPages
  poolRefusals : Nat := 0
  quotaRefusals : Nat := 0
  storeFaults : Nat := 0
deriving DecidableEq, Repr

/-! ### Records and the Publisher -/

/-- The cause of a MALFORMED verdict (R69). -/
inductive MalformedCause where
  | badLength
  | shortPayload
  | rangeOverflow
deriving DecidableEq, Repr

/-- The cause of a loss (R98). -/
inductive LossCause where
  | expired
  | evicted
  | byReset
deriving DecidableEq, Repr

/-- An ARRIVAL record (R138). The payload is in the chain. -/
structure ArrivalRec where
  verdict : Verdict
  feed : Option Nat
  line : Line
  first : Nat
  count : Nat
  date : CageTime
  length : Nat
  failCause : Option FailCause := none
  malformedCause : Option MalformedCause := none
  lead : Option Nat := none
  displaced : Option Winner := none
  captured : Nat
  truncated : Bool
  payloadShed : Bool := false
  payloadFault : Bool := false
  chain : Option Chain := none
deriving DecidableEq, Repr

/-- A record (section 8.2, R138, R139). -/
inductive Record where
  | arrival (a : ArrivalRec)
  | yielded (feed first count : Nat) (winner : Winner) (formerLine : Nat) (formerDate : CageTime)
  | lost (feed first count : Nat) (cause : LossCause) (reading : CageTime)
  | summary (feed : Nat) (counts : ShedCounts)
  | mark (tag : Nat) (target firing : CageTime) (late : Bool)
deriving DecidableEq, Repr

/-- The assembly state (R147). -/
inductive AsmState where
  | empty
  | filling
  | complete
deriving DecidableEq, Repr

/-- A closed publication frame with the header fixed at its closing (R149). -/
structure ReadyFrame where
  station : Nat
  identity : Identity
  number : Nat
  agreement : AgreementState
  spread : Nat
  drop : Nat
  records : List Record
deriving DecidableEq, Repr

/-- The publisher state (section 8.1). -/
inductive PubState where
  | normal
  | shedding
deriving DecidableEq, Repr

/-- The armed mark (section 8.1). -/
structure ArmedMark where
  target : CageTime
  tag : Nat
deriving DecidableEq, Repr

/-- The Publisher's ten counters (R156). -/
structure PubCounts where
  queued : Nat := 0
  shed : Nat := 0
  stripped : Nat := 0
  dropped : Nat := 0
  summaries : Nat := 0
  framesClosed : Nat := 0
  framesSent : Nat := 0
  framesAbandoned : Nat := 0
  marksFired : Nat := 0
  marksLate : Nat := 0
deriving DecidableEq, Repr

/-- The Publisher (section 8.1), with the records its makers have handed over and it has not yet taken (section 8.3). -/
structure Publisher where
  queue : List Record := []
  asm : List Record := []
  asmState : AsmState := .empty
  batchTimer : Option Nat := none
  ready : Option ReadyFrame := none
  state : PubState := .normal
  drop : Nat := 0
  frameNumber : Nat := 0
  mark : Option ArmedMark := none
  counts : PubCounts := {}
  fromClassifier : List Record := []
  fromArbiter : List Record := []
  fromMarks : List Record := []
deriving DecidableEq, Repr

/-! ### The Segment Port -/

/-- The segment link state (R158). -/
inductive LinkState where
  | down
  | up
deriving DecidableEq, Repr

/-- The kinds of frame the station sends (section 12.2). -/
inductive FrameKind where
  | beacon
  | publication
  | response
  | alert
deriving DecidableEq, Repr

/-- A frame being placed on the wire: its kind and all its bytes, the frame check sequence included. -/
structure TxFrame where
  kind : FrameKind
  bytes : List Byte
deriving DecidableEq, Repr

/-- How a frame left: with its last byte; ended by a link loss (R159); or ended with a frame check sequence that does not
match (R150). -/
inductive TxEnding where
  | whole
  | cut
  | abandoned
deriving DecidableEq, Repr

/-- The last frame seen on the wire and how it ended. The model's own: the output side of the segment port. -/
structure WireFrame where
  frame : TxFrame
  ending : TxEnding
deriving DecidableEq, Repr

/-- The frame being received: its date, and whether the date was sampled before the latest step or seconds write. -/
structure RxInFlight where
  date : CageTime
  stale : Bool := false
deriving DecidableEq, Repr

/-- An entry of the receive queue (section 9.4): the bytes from the destination address to the last byte before the
frame check sequence, the arrival date, and the same mark. -/
structure RxFrame where
  bytes : List Byte
  date : CageTime
  stale : Bool := false
deriving DecidableEq, Repr

/-- The Segment Port's station counters (R167). -/
structure PortCounts where
  linkLosses : Nat := 0
  rxCut : Nat := 0
  rxDamaged : Nat := 0
  rxNotAddressed : Nat := 0
  rxOtherProtocol : Nat := 0
  rxMalformed : Nat := 0
  rxOtherCage : Nat := 0
  ownEchoes : Nat := 0
  rxAccepted : Nat := 0
  rxOverruns : Nat := 0
  otherRequests : Nat := 0
  foreignReplies : Nat := 0
  unknownKind : Nat := 0
  untracked : Nat := 0
deriving DecidableEq, Repr

/-- The Segment Port (chapter 9). -/
structure Port where
  link : LinkState := .down
  rx : Option RxInFlight := none
  rxQueue : List RxFrame := []
  tx : Option TxFrame := none
  wire : Option WireFrame := none
  counts : PortCounts := {}
deriving DecidableEq, Repr

/-! ### The Request Handler -/

/-- A request in the request queue (section 12.5): its code, requester identity, tag and argument bytes. -/
structure Request where
  code : Nat
  requester : Nat
  tag : Nat
  args : List Byte
deriving DecidableEq, Repr

/-- The result codes (R170). -/
inductive Result where
  | ok
  | busy
  | wrongState
  | badArgument
  | alreadySet
  | flushed
  | replaced
  | noneArmed
deriving DecidableEq, Repr

/-- A response (section 12.5). -/
structure Response where
  code : Nat
  result : Result
  requester : Nat
  tag : Nat
  data : List Byte
deriving DecidableEq, Repr

/-- The Request Handler's seven counters (R185). -/
structure ReqCounts where
  received : Nat := 0
  busy : Nat := 0
  wrongState : Nat := 0
  badArgument : Nat := 0
  flushed : Nat := 0
  unanswered : Nat := 0
  alertsSent : Nat := 0
deriving DecidableEq, Repr

/-- A part of the request at the head that a block has taken (R175, R177): of a STATUS the items it supplied, of a CLEAR_COUNTS
nothing. -/
structure Part where
  block : Block
  items : List Byte := []
deriving DecidableEq, Repr

/-- The Request Handler (chapter 10): `fresh` is the new set of R181; `parts` the parts taken so far of the STATUS or
CLEAR_COUNTS at the head. -/
structure ReqHandler where
  queue : List Request := []
  parts : List Part := []
  responses : List Response := []
  latch : Bool := false
  set : CondSet := 0
  fresh : CondSet := 0
  enabled : CondSet := 0
  gateOpen : Bool := true
  alertPending : Bool := false
  alertNumber : Nat := 0
  counts : ReqCounts := {}
deriving DecidableEq, Repr

/-! ### The station -/

/-- The whole station, and the queue of the commands that wait (the host's interface). -/
structure State where
  loader : Loader
  clock : Clock := {}
  agr : Agreement := {}
  lines : PerLine LineRx := PerLine.all {}
  handOffs : List HandOff := []
  arrivals : List Arrival := []
  arbiter : Arbiter := {}
  feeds : List FeedSlot := []
  pool : Pool := {}
  pub : Publisher := {}
  port : Port := {}
  req : ReqHandler := {}
  pending : List Instr := []
deriving DecidableEq, Repr

/-- The station right after power-on: every block at the power-on values its chapter gives (R14, R18, R33, R56, R58,
R74, R121, R135, R157, R168, R185, R186). The strap level and the factory identity are no values of the manual:
DESIGN CHOICE, station 0 and identity 0x02A0B0C0D0E0, unsafe (log 3). -/
def State.reset : State :=
  { loader := { station := 0, identity := 0x02A0B0C0D0E0 } }

end Sys2Proof.Machine
end

