-- ==== Sys2Proof/Machine/Operands.lean ====
section
/-! DEFINITION. Reading and writing the fields of frames, records and the image (R196), the frame check sequence (R8),
parity (section 7.1), and the code numbers of chapter 12. -/

namespace Sys2Proof.Machine

/-! ### Numbers in bytes -/

/-- The `k` bytes of `n`, most significant first (R196); higher bits of `n` are dropped. -/
def toBE : Nat → Nat → List Byte
  | 0, _ => []
  | k + 1, n => BitVec.ofNat 8 (n / 256 ^ k) :: toBE k n

/-- The number whose bytes, most significant first, are `bs`. -/
def fromBE (bs : List Byte) : Nat := bs.foldl (fun n b => n * 256 + b.toNat) 0

/-- `n` bytes of `bs` from offset `off`; shorter when `bs` ends before. -/
def slice (bs : List Byte) (off n : Nat) : List Byte := (bs.drop off).take n

/-- The number in the `n` bytes at offset `off`, most significant first. -/
def natAt (bs : List Byte) (off n : Nat) : Nat := fromBE (slice bs off n)

/-- The `k` bytes of `n`, saturated at the largest value they hold (R199). -/
def toBESat (k n : Nat) : List Byte := toBE k (min n (256 ^ k - 1))

/-- A signed quantity in 8 bytes, two's complement, saturated at the nearer limit (R196, R199). -/
def signed8 (x : Int) : List Byte :=
  let y := max (-9223372036854775808) (min x 9223372036854775807)
  toBE 8 (y % 18446744073709551616).toNat

/-- A flag in one byte (R199). -/
def flagByte (b : Bool) : List Byte := [if b then 1 else 0]

/-- `n` zero bytes (R196). -/
def zeros (n : Nat) : List Byte := List.replicate n 0

/-- `bs` followed by zeros to a length that is a multiple of `m`. -/
def padTo (m : Nat) (bs : List Byte) : List Byte := bs ++ zeros ((m - bs.length % m) % m)

/-- `n` rounded up to a multiple of 8 (R140). -/
def roundUp8 (n : Nat) : Nat := (n + 7) / 8 * 8

/-! ### Cage times in frames -/

/-- The ten bytes of a cage time (R196). -/
def timeBytes (t : CageTime) : List Byte := toBE 6 t.sec ++ toBE 4 (t.ns * 4 + t.quarter)

/-- The cage time in the ten bytes at `off`. A quarter count of 4,000,000,000 or more gives nanoseconds at or above 10^9. -/
def timeAt (bs : List Byte) (off : Nat) : CageTime :=
  let c := natAt bs (off + 6) 4
  { sec := natAt bs off 6, ns := c / 4, quarter := c % 4 }

/-- Nanoseconds below 10^9 and a quarter of at most 3 (R26, R104, R179). -/
def CageTime.valid (t : CageTime) : Bool := decide (t.ns < 1000000000) && decide (t.quarter < 4)

/-! ### The frame check sequence -/

/-- One bit of the CRC-32 of Ethernet, least significant bit first (R8): 0xEDB88320 is 0x04C11DB7 bit-reversed. -/
def crcBit (c : BitVec 32) : BitVec 32 :=
  if c.getLsbD 0 then (c >>> 1) ^^^ 0xEDB88320#32 else c >>> 1

/-- A byte folded into the running CRC (R7, R8). -/
def crcByte (c : BitVec 32) (b : Byte) : BitVec 32 :=
  crcBit (crcBit (crcBit (crcBit (crcBit (crcBit (crcBit (crcBit (c ^^^ b.zeroExtend 32))))))))

/-- The CRC-32 of `bs`: preset to all ones, the result complemented (R8). -/
def crc32 (bs : List Byte) : BitVec 32 := ~~~ (bs.foldl crcByte (BitVec.allOnes 32))

/-- The four bytes of a frame check sequence as sent, least significant byte first (R8). -/
def fcsBytes (c : BitVec 32) : List Byte := (toBE 4 c.toNat).reverse

/-- Whether the CRC over every byte before the final four equals the final four (R8); a frame of fewer than four bytes
has no final four and fails (DEDUCED, log 14). -/
def tailMatches : List TailByte → Bool
  | [a, b, c, d] => decide (fcsBytes (~~~ a.before) = [a.byte, b.byte, c.byte, d.byte])
  | _ => false

/-! ### Parity -/

/-- The parity bit stored with a byte (section 7.1): even parity, DESIGN CHOICE, not visible outside (log 15). -/
def parityOf (b : Byte) : Bool :=
  b.getLsbD 0 ^^ b.getLsbD 1 ^^ b.getLsbD 2 ^^ b.getLsbD 3 ^^ b.getLsbD 4 ^^ b.getLsbD 5 ^^ b.getLsbD 6 ^^ b.getLsbD 7

/-- A byte as it is written into a page (R125). -/
def Cell.write (b : Byte) : Cell := { byte := b, parity := parityOf b }

/-- Whether a cell's parity bit agrees with its byte. -/
def Cell.sound (c : Cell) : Bool := c.parity == parityOf c.byte

/-! ### Code numbers (chapter 12) -/

/-- Section 12.3. -/
def StationState.code : StationState → Nat
  | .loading => 1
  | .halted => 2
  | .listen => 3
  | .acquire => 4
  | .serving => 5
  | .conflict => 6

/-- Section 12.3. -/
def AgreementState.code : AgreementState → Nat
  | .acquiring => 1
  | .anchored => 2
  | .alone => 3
  | .agreed => 4
  | .spread => 5

/-- Section 12.3. -/
def AnchorState.code : AnchorState → Nat
  | .none => 1
  | .seeking => 2
  | .locked => 3
  | .lost => 4

/-- Section 12.4. -/
def Verdict.code : Verdict → Nat
  | .first => 1
  | .fill => 2
  | .partialFill => 3
  | .late => 4
  | .reset => 5
  | .takeover => 6
  | .duplicate => 7
  | .keepalive => 8
  | .stale => 9
  | .wild => 10
  | .stray => 11
  | .malformed => 12
  | .damaged => 13

/-- The six claim verdicts (section 5.3). -/
def Verdict.isClaim : Verdict → Bool
  | .first | .fill | .partialFill | .late | .reset | .takeover => true
  | .duplicate | .keepalive | .stale | .wild | .stray | .malformed | .damaged => false

/-- The verdicts shed while SHEDDING (R144). -/
def Verdict.isShed : Verdict → Bool
  | .duplicate | .keepalive | .stale | .stray => true
  | .first | .fill | .partialFill | .late | .reset | .takeover | .wild | .malformed | .damaged => false

/-- Section 12.4. -/
def FailCause.code : FailCause → Nat
  | .fcs => 1
  | .short => 2
  | .long => 3
  | .codeError => 4

/-- Section 12.4. -/
def MalformedCause.code : MalformedCause → Nat
  | .badLength => 1
  | .shortPayload => 2
  | .rangeOverflow => 3

/-- Section 12.4. -/
def LossCause.code : LossCause → Nat
  | .expired => 1
  | .evicted => 2
  | .byReset => 3

/-- Section 12.5. -/
def Result.code : Result → Nat
  | .ok => 1
  | .busy => 2
  | .wrongState => 3
  | .badArgument => 4
  | .alreadySet => 5
  | .flushed => 6
  | .replaced => 7
  | .noneArmed => 8

/-- Section 12.2. -/
def FrameKind.code : FrameKind → Nat
  | .beacon => 1
  | .publication => 2
  | .response => 4
  | .alert => 5

/-- Section 12.5: the kinds of range log entry. -/
def EntryKind.code : EntryKind → Nat
  | .localClaim => 1
  | .peerClaim => 2
  | .lateClaim => 3
  | .lost => 4

/-- R199. -/
def LineState.code : LineState → Nat
  | .down => 1
  | .settling => 2
  | .live => 3
  | .silent => 4
  | .faulted => 5

/-- R199. -/
def EntryState.code : EntryState → Nat
  | .heard => 1
  | .paired => 2
  | .silent => 3

/-- R199. -/
def TableState.code : TableState → Nat
  | .unsynced => 1
  | .inOrder => 2
  | .gapped => 3

/-- R199. -/
def PubState.code : PubState → Nat
  | .normal => 1
  | .shedding => 2

/-- R199. -/
def AsmState.code : AsmState → Nat
  | .empty => 1
  | .filling => 2
  | .complete => 3

/-- R199. -/
def LinkState.code : LinkState → Nat
  | .down => 1
  | .up => 2

/-- R199. -/
def RejectCause.code : RejectCause → Nat
  | .badTag => 1
  | .badLength => 2
  | .badCrc => 3
  | .badLine => 4
  | .sameLines => 5
  | .duplicateFeed => 6
  | .duplicateAddress => 7

/-- The two bytes of an image status item: the status and its cause, 0 when not REJECTED (R199). -/
def ImageStatus.codes : ImageStatus → List Byte
  | .loading => [1, 0]
  | .accepted => [2, 0]
  | .rejected c => [3, BitVec.ofNat 8 c.code]

end Sys2Proof.Machine
end

