-- ==== Sys2Proof/Machine/Flags.lean ====
section
/-! DEFINITION. The alert conditions, the new set and the alert gate of the Request Handler (R181, R182, R184), its
response queue (R172), and saturating counters. -/

namespace Sys2Proof.Machine

/-- A 32-bit counter raised by one, saturating (00 section 5.6). -/
def bump (n : Nat) : Nat := min (n + 1) Config.counterMax

/-- A 32-bit counter raised by `k`, saturating. -/
def bumpBy (k n : Nat) : Nat := min (n + k) Config.counterMax

/-- The fifteen alert conditions, in the order of section 10.6. -/
inductive Condition where
  | lineDown
  | lineFaulted
  | lineSilent
  | gapLost
  | shedding
  | recordsDropped
  | poolExhausted
  | storeFault
  | peerGone
  | peerTableFull
  | spread
  | anchorLost
  | stationConflict
  | segmentRxOverrun
  | configClamped
deriving DecidableEq, Repr

/-- The set that holds one condition (R196). -/
def Condition.bit : Condition → CondSet
  | .lineDown => 0x0001
  | .lineFaulted => 0x0002
  | .lineSilent => 0x0004
  | .gapLost => 0x0008
  | .shedding => 0x0010
  | .recordsDropped => 0x0020
  | .poolExhausted => 0x0040
  | .storeFault => 0x0080
  | .peerGone => 0x0100
  | .peerTableFull => 0x0200
  | .spread => 0x0400
  | .anchorLost => 0x0800
  | .stationConflict => 0x1000
  | .segmentRxOverrun => 0x2000
  | .configClamped => 0x4000

/-- The test of R182: with the gate open and a condition both set and enabled, the gate closes and an ALERT frame is pending. -/
def ReqHandler.gateTest (r : ReqHandler) : ReqHandler :=
  if r.gateOpen && decide (r.set &&& r.enabled ≠ 0) then { r with gateOpen := false, alertPending := true } else r

/-- A raise (R181): a clear condition is set and enters the new set; then the gate test. -/
def ReqHandler.raise (c : Condition) (r : ReqHandler) : ReqHandler :=
  { r with set := r.set ||| c.bit,
           fresh := if r.set &&& c.bit = 0 then r.fresh ||| c.bit else r.fresh }.gateTest

/-- A raise only when `b` holds. -/
def ReqHandler.raiseIf (b : Bool) (c : Condition) (r : ReqHandler) : ReqHandler :=
  if b then r.raise c else r

/-- The effect of an accepted ACK_ALERTS on the conditions (R184): the named ones are cleared, the gate opens, the test follows.
A pending ALERT frame is kept. Where the test leaves the gate open, that frame and one that a later raise makes pending can both
leave before the next opening, against R182's "at most one" between two openings: the model follows the mechanics of R182 to
R184 (DEDUCED, log 42). -/
def ReqHandler.acknowledge (named : CondSet) (r : ReqHandler) : ReqHandler :=
  { r with set := r.set &&& ~~~ named, fresh := r.fresh &&& ~~~ named, gateOpen := true }.gateTest

/-- New enables come into force, followed by the test (R180, R185). -/
def ReqHandler.enable (set : CondSet) (r : ReqHandler) : ReqHandler := { r with enabled := set }.gateTest

/-- A response is formed (R172): appended, or discarded when the queue holds four. -/
def ReqHandler.respond (r : ReqHandler) (p : Response) : ReqHandler :=
  if r.responses.length < Config.responseLimit then { r with responses := r.responses ++ [p] }
  else { r with counts := { r.counts with unanswered := bump r.counts.unanswered } }

/-- The response to a request: code, requester and tag as received (section 12.5). -/
def Request.answer (q : Request) (res : Result) (data : List Byte) : Response :=
  { code := q.code, result := res, requester := q.requester, tag := q.tag, data := data }

/-- A flush (R173, R174): each queued request, head to tail, is answered FLUSHED and counted; the queue is emptied. Of a STATUS
or a CLEAR_COUNTS the parts already taken stand at their blocks, and the rest are not taken. -/
def ReqHandler.flush (r : ReqHandler) : ReqHandler :=
  r.queue.foldl
    (fun h q => ({ h with counts := { h.counts with flushed := bump h.counts.flushed } }).respond (q.answer .flushed []))
    { r with queue := [], parts := [] }

end Sys2Proof.Machine
end

