-- ==== Sys2Proof/Machine/Time.lean ====
section
/-! DEFINITION. Cage time: comparison, differences, readings, dates, steps, the increment (chapter 2), and timers (R16). -/

namespace Sys2Proof.Machine

/-! ### Timers -/

/-- Whether a timer's deadline has been reached (R16); a stopped timer is never due. -/
def due (deadline : Option Nat) (now : Nat) : Bool :=
  match deadline with
  | some d => decide (d ≤ now)
  | none => false

/-! ### Cage times as values -/

/-- A cage time as a count of quarter nanoseconds. -/
def CageTime.quarters (t : CageTime) : Nat := t.sec * Config.quartersPerSec + t.ns * 4 + t.quarter

/-- The earlier-than comparison by seconds, nanoseconds and quarter (R79, R151). -/
def CageTime.before (a b : CageTime) : Bool :=
  decide (a.sec < b.sec) ||
    (decide (a.sec = b.sec) &&
      (decide (a.ns < b.ns) || (decide (a.ns = b.ns) && decide (a.quarter < b.quarter))))

/-- The cage time of a count of quarter nanoseconds: below zero it is zero, and the seconds wrap at 2^48 (R17, R22, R26). -/
def CageTime.ofQuarters (q : Int) : CageTime :=
  let n := q.toNat
  { sec := n / Config.quartersPerSec % Config.secondsModulus,
    ns := n % Config.quartersPerSec / 4,
    quarter := n % 4 }

/-- `t` moved by a correction of `c` quarter nanoseconds, clamped at zero (R22). -/
def CageTime.shift (t : CageTime) (c : Int) : CageTime := CageTime.ofQuarters (t.quarters + c)

/-- `t` with a difference of seconds added, modulo 2^48 (R23; that it wraps below zero is DEDUCED, log 16). -/
def CageTime.addSeconds (t : CageTime) (d : Int) : CageTime :=
  { t with sec := ((t.sec + d) % (Config.secondsModulus : Int)).toNat }

/-- The signed difference `a - b` in quarter nanoseconds; the seconds' difference is reduced modulo 2^48 into the range
-2^47 to 2^47 - 1 (R42). -/
def CageTime.diff (a b : CageTime) : Int :=
  let m : Int := Config.secondsModulus
  let s := ((a.sec : Int) - b.sec + m / 2) % m - m / 2
  s * Config.quartersPerSec + ((a.ns : Int) * 4 + a.quarter) - ((b.ns : Int) * 4 + b.quarter)

/-! ### The accumulator -/

/-- One tick's advance (R17): the nanosecond field carries at most once into the seconds, which wrap at 2^48. -/
def Accum.advance (a : Accum) (incr : Nat) : Accum :=
  if a.units + incr < Config.unitsPerSec then { a with units := a.units + incr }
  else { sec := (a.sec + 1) % Config.secondsModulus, units := a.units + incr - Config.unitsPerSec }

/-- A step of `c` quarter nanoseconds (R22): normalised, clamped at zero, the finer fraction kept. -/
def Accum.step (a : Accum) (c : Int) : Accum :=
  let n := ((a.sec * Config.unitsPerSec + a.units : Nat) + c * Config.unitsPerQuarter : Int).toNat
  { sec := n / Config.unitsPerSec % Config.secondsModulus, units := n % Config.unitsPerSec }

/-- A reading (R24): truncated to a whole quarter nanosecond. -/
def Accum.reading (a : Accum) : CageTime :=
  { sec := a.sec, ns := a.units / 4294967296, quarter := a.units % 4294967296 / Config.unitsPerQuarter }

/-- A date (R25, R26): C_tick plus p × I / 16, held exactly in sixteenths of a unit, less the trim, rounded to the nearest
quarter with a half rounded up, and clamped at zero. -/
def dateOf (a : Accum) (incr : Nat) (phase : Nat) (trim : Nat) : CageTime :=
  let q16 : Int := 16 * Config.unitsPerQuarter
  let raw : Int := ((a.sec * Config.unitsPerSec + a.units) * 16 + phase * incr : Nat) - trim * q16
  CageTime.ofQuarters ((raw + q16 / 2) / q16)

/-! ### Rates -/

/-- `x` clamped to `lo` to `hi`. -/
def clampInt (lo hi x : Int) : Int := max lo (min hi x)

/-- The applied rate: freq plus slew, clamped to ±250,000 ppb (R20). -/
def appliedRate (freq slew : Int) : Int := clampInt (-250000) 250000 (freq + slew)

/-- The rate adjust A (R19): r × 2^34 / 10^9 to the nearest integer, a half away from zero. -/
def rateAdjust (r : Int) : Int := r.sign * ((r.natAbs * 17179869184 * 2 + 1000000000) / 2000000000 : Nat)

/-- The increment I in force (R17). -/
def Clock.incr (c : Clock) : Nat := ((Config.nominalIncrement : Int) + c.adj).toNat

/-- The present reading of cage time (R24). -/
def Clock.reading (c : Clock) : CageTime := c.acc.reading

/-- The date of an instant sampled in the present tick (R25, R26). -/
def Clock.date (c : Clock) (phase : Fin 16) (trim : Nat) : CageTime := dateOf c.acc c.incr phase.val trim

/-- The tick's end and the boundary after it (R16, R17, R19 to R21): the count rises (the wrap at 2^64 is out of service,
log 17), cage time advances by the increment in force, then r and A of the terms held come into force, and what was asked
for the next boundary is due. A slew zeroed by a RESTART or CONFLICT comes into force here too: `rate` and `adj` keep their value
until the next boundary, as R19 has it, though R21 and table 2.9 could be read to change r at the event (DEDUCED, log 39). While
the anchor is enabled the tick that ends joins `past`. -/
def Clock.advance (c : Clock) : Clock :=
  { c with
    tick := (c.tick + 1) % 18446744073709551616,
    acc := c.acc.advance c.incr,
    rate := appliedRate c.freq c.slew,
    adj := rateAdjust (appliedRate c.freq c.slew),
    past := if c.anchor.state = .none then [] else { acc := c.acc, incr := c.incr, move := c.move } :: c.past,
    move := {},
    pendingStep := c.pendingStep.map (fun p => { p with due := true }),
    pendingSeconds := c.pendingSeconds.map (fun p => { p with due := true }) }

end Sys2Proof.Machine
end

