-- ==== Sys2Proof/Machine/Ops.lean ====
section
/-! DEFINITION. The operations that several commands share: alerts, pages and chains, lines and feed slots, records handed
to the Publisher, frames closing, entering SERVING, leaving SERVING, CONFLICT and RESTART. -/

namespace Sys2Proof.Machine

/-! ### Alerts and responses -/

/-- A condition is raised with the Request Handler (R181, R182). -/
def State.raise (s : State) (c : Condition) : State := { s with req := s.req.raise c }

/-- A response is formed (R172). -/
def State.respond (s : State) (p : Response) : State := { s with req := s.req.respond p }

/-! ### Pages and chains (chapter 7) -/

/-- `n` pages of `line`'s chains return to the free list (R123). -/
def Pool.release (p : Pool) (line : Line) (n : Nat) : Pool :=
  { p with free := p.free + n, held := p.held.set line (p.held.get line - n) }

/-- Every page of a chain returns to the free list (R130, R131). -/
def Pool.releaseChain (p : Pool) (c : Chain) : Pool := p.release c.line c.pages.length

/-- Every page of a chain, where there is one, returns to the free list. -/
def Pool.releaseOpt (p : Pool) (c : Option Chain) : Pool :=
  match c with
  | some c => p.releaseChain c
  | none => p

/-- Every page of every chain of a list returns to the free list. -/
def Pool.releaseAll (p : Pool) (cs : List (Option Chain)) : Pool := cs.foldl Pool.releaseOpt p

/-- A chain with no pages: its payload is gone, its captured length and truncated flag stand (R131). -/
def Chain.emptied (c : Chain) : Chain := { c with pages := [], held := some 0 }

/-- The bytes a chain carries as payload: its held length, zero before the trim (section 7.1). -/
def Chain.heldLength (c : Chain) : Nat := c.held.getD 0

/-- The held length a trim sets (R129): by the mode of the record's feed and the captured length. -/
def Carriage.heldLength (mode : Carriage) (captured : Nat) : Nat :=
  match mode with
  | .none => 0
  | .header => min captured 64
  | .full => captured

/-- Pages needed for `n` bytes (R129). -/
def pagesFor (n : Nat) : Nat := (n + (Config.pageBytes - 1)) / Config.pageBytes

/-- A chain trimmed to a carriage mode (R129). -/
def Chain.trim (c : Chain) (mode : Carriage) : Chain :=
  let held := mode.heldLength (c.captured.getD 0)
  { c with pages := c.pages.take (pagesFor held), held := some held }

/-- The pages a trim releases return to the free list (R129). -/
def Pool.trim (p : Pool) (c : Option Chain) (mode : Carriage) : Pool :=
  match c with
  | some c => p.release c.line (c.pages.length - (c.trim mode).pages.length)
  | none => p

/-- A byte written at the end of a chain (R123, R125). -/
def Chain.append (c : Chain) (b : Byte) : Chain :=
  { c with
    pages :=
      if c.stored % Config.pageBytes = 0 then c.pages ++ [[Cell.write b]]
      else c.pages.dropLast ++ [c.pages.getLast?.getD [] ++ [Cell.write b]],
    stored := c.stored + 1 }

/-- The line's capture limit (section 7.2). -/
def Carriage.captureLimit : Carriage → Nat
  | .none => 0
  | .header => 64
  | .full => 1536

/-- What the Page Pool does with an offered byte (R125). -/
inductive Offer where
  /-- accepted and not stored: the chain is at the capture limit -/
  | passed
  /-- stored in the chain's last page -/
  | stored
  /-- stored in a page newly taken -/
  | newPage
  /-- refused: the free list is empty -/
  | poolRefused
  /-- refused: the line is at its quota -/
  | quotaRefused
deriving DecidableEq, Repr

/-- The decision of R125 for a chain on a line of carriage `mode`. -/
def Pool.offer (p : Pool) (c : Chain) (mode : Carriage) : Offer :=
  if mode.captureLimit ≤ c.stored then .passed
  else if c.stored % Config.pageBytes ≠ 0 then .stored
  else if p.free = 0 then .poolRefused
  else if p.held.get c.line = Config.lineQuota then .quotaRefused
  else .newPage

/-- A free page is taken for a chain of `line` (R123, R125); the low mark follows. -/
def Pool.take (p : Pool) (line : Line) : Pool :=
  { p with free := p.free - 1, held := p.held.set line (p.held.get line + 1), low := min p.low (p.free - 1) }

/-! ### Feed slots and lines -/

/-- The rank of a carriage mode, NONE lowest (R59). -/
def Carriage.rank : Carriage → Nat
  | .none => 0
  | .header => 1
  | .full => 2

/-- Whether a line is the A line or the B line of a feed (R59). -/
def FeedCfg.onLine (f : FeedCfg) (i : Line) : Bool := decide (f.aLine = i) || decide (f.bLine = some i)

/-- The line's feed list: the feeds mapped to it, in map order (R59). -/
def feedList (feeds : List FeedSlot) (i : Line) : List FeedSlot := feeds.filter (fun f => f.cfg.onLine i)

/-- The line's carriage: the largest mode among the feeds of its list (R59). -/
def lineCarriage (feeds : List FeedSlot) (i : Line) : Carriage :=
  (feedList feeds i).foldl (fun m f => if m.rank < f.cfg.carriage.rank then f.cfg.carriage else m) .none

/-- The slot of a cage feed number. -/
def findFeed (feeds : List FeedSlot) (n : Nat) : Option FeedSlot := feeds.find? (fun f => decide (f.cfg.feed = n))

/-- The slots with `f` applied to the one of cage feed number `n`. -/
def modifyFeed (feeds : List FeedSlot) (n : Nat) (f : FeedSlot → FeedSlot) : List FeedSlot :=
  feeds.map (fun x => if x.cfg.feed = n then f x else x)

/-- The line's configuration: that of the image in force, or of an empty image (R14). -/
def State.lineCfg (s : State) (i : Line) : LineCfg :=
  match s.loader.config with
  | some c => c.lines.get i
  | none => {}

/-- Line `i` with `f` applied. -/
def State.modifyLine (s : State) (i : Line) (f : LineRx → LineRx) : State :=
  { s with lines := s.lines.set i (f (s.lines.get i)) }

/-- Whether an image is in force (R1). -/
def StationState.hasImage : StationState → Bool
  | .listen | .acquire | .serving | .conflict => true
  | .loading | .halted => false

/-- Whether the station takes and sends beacons (R34, R37). -/
def StationState.beacons : StationState → Bool
  | .listen | .acquire | .serving => true
  | .loading | .halted | .conflict => false

/-! ### Records -/

/-- The chain a record carries; only an ARRIVAL record carries one (R138, R139). -/
def Record.chain : Record → Option Chain
  | .arrival a => a.chain
  | .yielded _ _ _ _ _ _ | .lost _ _ _ _ _ | .summary _ _ | .mark _ _ _ _ => none

/-- The held length of an ARRIVAL record's chain. -/
def ArrivalRec.heldLength (a : ArrivalRec) : Nat :=
  match a.chain with
  | some c => c.heldLength
  | none => 0

/-- The encoded length of a record (R140). -/
def Record.encodedLength : Record → Nat
  | .arrival a => 64 + roundUp8 a.heldLength
  | .yielded _ _ _ _ _ _ => 48
  | .lost _ _ _ _ _ => 32
  | .summary _ _ => 48
  | .mark _ _ _ _ => 32

/-- The size of the records of a frame (R140). -/
def recordsSize (rs : List Record) : Nat := (rs.map Record.encodedLength).sum

/-- Records handed over by the Sequence Arbiter, in the order given (R98, R141). -/
def State.handArbiter (s : State) (rs : List Record) : State :=
  { s with pub := { s.pub with fromArbiter := s.pub.fromArbiter ++ rs } }

/-! ### Frames of the Publisher (section 8.6) -/

/-- The frame under assembly closes into the ready frame slot with its header fixed (R149). -/
def State.closeFrame (s : State) : State :=
  { s with pub := { s.pub with
      ready := some { station := s.loader.station, identity := s.loader.identity, number := s.pub.frameNumber,
                      agreement := s.agr.agreement, spread := s.agr.spread, drop := s.pub.drop, records := s.pub.asm },
      frameNumber := (s.pub.frameNumber + 1) % 4294967296,
      drop := 0,
      counts := { s.pub.counts with framesClosed := bump s.pub.counts.framesClosed },
      asm := [], asmState := .empty, batchTimer := none } }

/-- A FILLING frame meets a closing condition (R148): the batch timer stops; it closes into an empty slot, else it is COMPLETE. -/
def State.closingCondition (s : State) : State :=
  if s.pub.ready = none then s.closeFrame
  else { s with pub := { s.pub with asmState := .complete, batchTimer := none } }

/-- Whether the head of the queue fits the frame under assembly by count and by size (R147). -/
def Publisher.fits (p : Publisher) (r : Record) : Bool :=
  decide (p.asm.length < Config.frameRecords) &&
    decide (recordsSize p.asm + r.encodedLength ≤ Config.frameBytes)

/-- Whether a FILLING frame has met a closing condition other than its timer's expiry (R148): 16 records, or a head that
does not fit because of its size. -/
def Publisher.full (p : Publisher) : Bool :=
  decide (p.asmState = .filling) &&
    (decide (Config.frameRecords ≤ p.asm.length) ||
      match p.queue with
      | r :: _ => decide (Config.frameBytes < recordsSize p.asm + r.encodedLength)
      | [] => false)

/-- The closing conditions of R148 that follow from the frame's contents and the queue's head. -/
def State.checkFull (s : State) : State := if s.pub.full then s.closingCondition else s

/-! ### The segment transmitter -/

/-- The frame on the wire ends in the way given (R150, R159); a publication frame that does not end whole counts as
abandoned. -/
def State.endTx (s : State) (e : TxEnding) : State :=
  match s.port.tx with
  | none => s
  | some f =>
    { s with
      port := { s.port with tx := none, wire := some { frame := f, ending := e } },
      pub := { s.pub with counts :=
        if f.kind = .publication then
          if e = .whole then { s.pub.counts with framesSent := bump s.pub.counts.framesSent }
          else { s.pub.counts with framesAbandoned := bump s.pub.counts.framesAbandoned }
        else s.pub.counts } }

/-- A publication frame being sent is ended before its last byte with a frame check sequence that does not match (R150);
the other kinds go on (R160). -/
def State.abandonPublication (s : State) : State :=
  match s.port.tx with
  | some f => if f.kind = .publication then s.endTx .abandoned else s
  | none => s

/-! ### Leaving and entering SERVING -/

/-- A frame in flight when the station leaves SERVING (R11): a marked one loses its mark and its chain. -/
def FrameRec.unmark (f : FrameRec) : FrameRec :=
  if f.cls = .live ∧ f.mark then { f with mark := false, chain := none } else f

/-- The chain of a frame that loses its mark (R11). -/
def LineRx.markedChain (l : LineRx) : Option Chain :=
  match l.frame with
  | some f => if f.cls = .live ∧ f.mark then f.chain else none
  | none => none

/-- A table cleared (R100). -/
def Table.cleared : Table := {}

/-- A feed slot when the station leaves SERVING: table and classifier counters cleared, shed counts zero (R73, R100, R157). -/
def FeedSlot.cleared (f : FeedSlot) : FeedSlot := { cfg := f.cfg }

/-- The records the Publisher holds: queue, frame under assembly, ready frame, and those handed over and not yet taken. -/
def Publisher.records (p : Publisher) : List Record :=
  p.queue ++ p.asm ++ (match p.ready with | some f => f.records | none => []) ++
    p.fromClassifier ++ p.fromArbiter ++ p.fromMarks

/-- The chains that end when the station leaves SERVING (R11, R72, R100, R131, R135, R136). The chain of a record handed
over and not yet taken is among those of "every record the Publisher holds" (DEDUCED, log 11). -/
def State.serviceChains (s : State) : List (Option Chain) :=
  s.lines.toList.map LineRx.markedChain ++ s.handOffs.map HandOff.chain ++ s.arrivals.map Arrival.chain ++
    s.pub.records.map Record.chain

/-- The Publisher emptied (R157): queue, frame under assembly and ready frame; NORMAL; no drop count; no armed mark. The records
handed over and not yet taken are cleared with the queue (R72; DEDUCED that it is at this moment, log 11). -/
def Publisher.emptied (p : Publisher) : Publisher :=
  { p with queue := [], asm := [], asmState := .empty, batchTimer := none, ready := none, state := .normal, drop := 0,
           mark := none, fromClassifier := [], fromArbiter := [], fromMarks := [] }

/-- What the Line Receivers, the Feed Classifier, the Sequence Arbiter, the Page Pool and the Publisher do when the station
enters CONFLICT or begins a RESTART (R11, R72, R73, R100, R130, R131, R150, R157). -/
def State.leaveService (s : State) : State :=
  let t := s.abandonPublication
  { t with
    pool := t.pool.releaseAll t.serviceChains,
    lines := t.lines.map (fun l => { l with frame := l.frame.map FrameRec.unmark }),
    handOffs := [],
    arrivals := [],
    feeds := t.feeds.map FeedSlot.cleared,
    pub := t.pub.emptied }

/-- The flush of the request queue, which takes back a SET_SECONDS whose boundary has not come (R173, R174). -/
def State.flushRequests (s : State) : State :=
  { s with req := s.req.flush, clock := { s.clock with pendingSeconds := none } }

/-- The station enters SERVING with the round's class as its agreement state (R51, R53, R191). -/
def State.enterServing (s : State) (cls : AgreementState) : State :=
  { s with
    loader := { s.loader with state := .serving },
    agr := { s.agr with agreement := cls, servingAfterStep := none },
    req := s.req.raiseIf (decide (cls = .spread)) .spread }

/-- The station enters CONFLICT (R39). -/
def State.enterConflict (s : State) : State :=
  let t := s.flushRequests.leaveService
  { t with
    loader := { t.loader with state := .conflict },
    agr := { t.agr with beaconTimer := none, roundTimer := none, beaconDue := false, peers := [], departures := [],
                        servingAfterStep := none },
    clock := { t.clock with slew := 0 },
    req := t.req.raise .stationConflict }

/-! ### RESTART -/

/-- A Line Receiver at a RESTART (R13). The settle error count of a line in DOWN, which R13 does not name, is zeroed too (DESIGN
CHOICE, log 38). -/
def LineRx.restarted (l : LineRx) : LineRx :=
  if l.state = .down then { frame := l.frame } else { state := .settling, frame := l.frame }

/-- The Request Handler at a RESTART, after the flush and the answer (R185): the responses are kept. -/
def ReqHandler.restarted (r : ReqHandler) : ReqHandler := { responses := r.responses }

/-- The Loader begins a RESTART (R194), the straps being read as `straps` (R187). A step asked for and not yet applied
stays with the Station Clock, which keeps its sense of time (DESIGN CHOICE, log 10). -/
def State.restart (s : State) (straps : Nat) : State :=
  let t := s.leaveService
  { t with
    loader := { state := .loading, station := straps, identity := t.loader.identity, imageStatus := .loading,
                clamped := 0, restarts := bump t.loader.restarts, config := none },
    clock := { t.clock with slew := 0, anchor := {}, past := [], pendingSeconds := none },
    agr := {},
    lines := t.lines.map LineRx.restarted,
    arbiter := { frame := t.arbiter.frame },
    feeds := [],
    pool := { t.pool with low := Config.poolPages, poolRefusals := 0, quotaRefusals := 0, storeFaults := 0 },
    pub := { t.pub with frameNumber := 0, counts := {} },
    port := { t.port with counts := {} },
    req := t.req.restarted }

/-! ### Boundaries of a step or an accepted seconds write -/

/-- A peer entry at such a boundary (R45): samples and echo pair discarded; PAIRED becomes HEARD. -/
def Peer.atBoundary (p : Peer) : Peer :=
  { p with ring := [], echo := none, state := if p.state = .paired then .heard else p.state }

/-- What the Agreement Unit discards at the boundary of a step or an accepted seconds write (R36, R45), and the marking of
every beacon date already sampled (R40 step 5). -/
def State.discardSamples (s : State) : State :=
  { s with
    agr := { s.agr with peers := s.agr.peers.map Peer.atBoundary, departures := [],
                        inbox := s.agr.inbox.map (fun b => { b with stale := true }) },
    port := { s.port with rx := s.port.rx.map (fun r => { r with stale := true }),
                          rxQueue := s.port.rxQueue.map (fun r => { r with stale := true }) } }

end Sys2Proof.Machine
end

