-- ==== Sys2Proof/Machine/AgreementUnit.lean ====
section
/-! DEFINITION. The Agreement Unit (chapter 3): beacons made due, beacons taken, conflicts, samples, silence, and rounds. -/

namespace Sys2Proof.Machine

/-- The beacon interval B of the image in force, in milliseconds; its default stands in where none is (section 3.1). -/
def State.beaconMs (s : State) : Nat :=
  match s.loader.config with
  | some c => c.beaconMs
  | none => 4

/-- The beacon interval in local ticks. -/
def State.beaconTicks (s : State) : Nat := s.beaconMs * Config.ticksPerMs

/-- A beacon becomes due, or is skipped while the segment link is DOWN (R34). -/
def Agreement.makeDue (a : Agreement) (link : LinkState) : Agreement :=
  match link with
  | .up => { a with beaconDue := true }
  | .down => { a with skipped := bump a.skipped }

/-- BEACON_TIMER_EXPIRY (R34), when the beacon timer is due. -/
def beaconTimerExpiry (s : State) : State :=
  if due s.agr.beaconTimer s.clock.tick then
    { s with agr := { s.agr with beaconTimer := some (s.clock.tick + s.beaconTicks) }.makeDue s.port.link }
  else s

/-- BEACON_TIMER_EXPIRY. -/
def execBeaconTimerExpiry (s : State) : Host.Outcome State Fault Refusal := .next (beaconTimerExpiry s)

/-! ### Samples -/

/-- What the checks of R43 compare a sample with, in quarter ns, and the departure history. -/
structure SampleLimits where
  twoB : Int
  minDelay : Int
  maxDelay : Int
  departures : List CageTime
deriving DecidableEq, Repr

/-- The limits of the image in force (section 3.1). -/
def State.sampleLimits (s : State) : SampleLimits :=
  { twoB := s.beaconMs * 8000000,
    minDelay := match s.loader.config with | some c => c.minDelayNs * 4 | none => 200,
    maxDelay := match s.loader.config with | some c => c.maxDelayUs * 4000 | none => 400000,
    departures := s.agr.departures }

/-- The offset θ of the four dates (R42), truncated toward zero. -/
def sampleOffset (t1 t2 t3 t4 : CageTime) : Int := (t2.diff t1 + t3.diff t4).tdiv 2

/-- The delay δ of the four dates (R42), truncated toward zero. -/
def sampleDelay (t1 t2 t3 t4 : CageTime) : Int := (t4.diff t1 - t3.diff t2).tdiv 2

/-- What the checks of R43 make of a sample. -/
inductive SampleCheck where
  | accepted
  | staleEcho
  | unknownEcho
  | delayLow
  | delayHigh
deriving DecidableEq, Repr

/-- The first check of R43 that matches. -/
def checkSample (lim : SampleLimits) (t1 t2 t3 t4 : CageTime) : SampleCheck :=
  if t3.diff t2 < 0 ∨ lim.twoB < t3.diff t2 then .staleEcho
  else if t1 ∉ lim.departures then .unknownEcho
  else if sampleDelay t1 t2 t3 t4 < lim.minDelay then .delayLow
  else if lim.maxDelay < sampleDelay t1 t2 t3 t4 then .delayHigh
  else .accepted

/-- A sample enters the ring, the oldest leaving a full one, and a HEARD entry becomes PAIRED (R44). -/
def Peer.accept (p : Peer) (x : Sample) : Peer :=
  { p with
    ring := (if p.ring.length < Config.ringLimit then p.ring else p.ring.drop 1) ++ [x],
    counts := { p.counts with accepted := bump p.counts.accepted },
    state := if p.state = .heard then .paired else p.state }

/-- The sample of a beacon that carries an echo of this station (R42 to R44). -/
def Peer.sample (p : Peer) (lim : SampleLimits) (e : EchoEntry) (b : BeaconIn) : Peer :=
  let k := p.counts
  match checkSample lim e.t1 e.t2 b.beacon.departure b.arrival with
  | .staleEcho => { p with counts := { k with staleEchoes := bump k.staleEchoes } }
  | .unknownEcho => { p with counts := { k with unknownEchoes := bump k.unknownEchoes } }
  | .delayLow => { p with counts := { k with delayLow := bump k.delayLow } }
  | .delayHigh => { p with counts := { k with delayHigh := bump k.delayHigh } }
  | .accepted =>
    p.accept { offset := sampleOffset e.t1 e.t2 b.beacon.departure b.arrival,
               delay := sampleDelay e.t1 e.t2 b.beacon.departure b.arrival, tick := b.tick }

/-! ### Hearing a beacon -/

/-- The sample ring discarded, a PAIRED entry becoming HEARD (R40 steps 3 and 4, R41). -/
def Peer.dropRing (p : Peer) : Peer :=
  { p with ring := [], state := if p.state = .paired then .heard else p.state }

/-- R40 step 1: the entry is taken over by a new identity. -/
def Peer.takeOver (p : Peer) (identity : Identity) : Peer :=
  { p with identity := identity, ring := [], echo := none, lastPubFrame := none, state := .heard,
           counts := { identityChanges := 1 } }

/-- The forward distance modulo 2^32 (R40, R166). -/
def forwardDistance (last new : Nat) : Nat := (new + 4294967296 - last % 4294967296) % 4294967296

/-- R40 step 3: the beacon number. -/
def Peer.numberStep (p : Peer) (new : Nat) : Peer :=
  let d := forwardDistance p.lastBeaconNumber new
  if d = 0 ∨ 2147483648 < d then p.dropRing
  else { p with counts := { p.counts with missed := bumpBy (d - 1) p.counts.missed } }

/-- R40 steps 5 and 6: what the beacon replaces, the silence deadline, and the return from SILENT. A departure date whose quarter
count is 4,000,000,000 or more is refused by no rule for beacons: it is held as it was read, and echoed and reported with
nanoseconds at or above 10^9 (DEDUCED, log 40). -/
def Peer.record (p : Peer) (b : BeaconIn) (beaconTicks : Nat) : Peer :=
  { p with
    repState := b.beacon.state, repAgreement := b.beacon.agreement, repAnchor := b.beacon.anchor,
    repSpread := b.beacon.spread, lastBeaconTick := b.tick, lastBeaconNumber := b.beacon.number,
    echo := if b.stale then none else some { t1 := b.beacon.departure, t2 := b.arrival },
    deadline := b.tick + 4 * beaconTicks,
    state := if p.state = .silent then (if p.ring = [] then .heard else .paired) else p.state }

/-- A beacon updates an entry (R40). `fresh` says the entry has just been made: steps 3 and 4 are passed over. -/
def Peer.hear (p : Peer) (fresh : Bool) (own : Nat) (b : BeaconIn) (beaconTicks : Nat) (lim : SampleLimits) : Peer :=
  let taken := decide (p.identity ≠ b.beacon.identity)
  let p1 := if taken then p.takeOver b.beacon.identity else p
  let p2 := { p1 with counts := { p1.counts with heard := bump p1.counts.heard } }
  let p3 := if fresh || taken then p2 else p2.numberStep b.beacon.number
  let p4 := if !fresh && decide (p3.repState ≠ b.beacon.state) then p3.dropRing else p3
  let p6 := p4.record b beaconTicks
  if b.stale then p6
  else
    match b.beacon.echoes.find? (fun e => decide (e.station = own)) with
    | some e => p6.sample lim e b
    | none => p6

/-- A station-number conflict survived (R38): the memory is stored, after a raise and a count when it is new. -/
def State.surviveConflict (s : State) (b : BeaconIn) : State :=
  let news := match s.agr.conflict with
    | none => true
    | some m => decide (m.identity ≠ b.beacon.identity) || decide (m.tick + 32 * s.beaconTicks < b.tick)
  { s with
    agr := { s.agr with conflict := some { identity := b.beacon.identity, tick := b.tick },
                        conflicts := if news then bump s.agr.conflicts else s.agr.conflicts },
    req := s.req.raiseIf news .stationConflict }

/-- What the Agreement Unit does with a beacon it takes in LISTEN, ACQUIRE or SERVING (R37). The Segment Port has already
discarded a beacon of this station's own identity (R162); one that is here all the same is discarded. -/
def State.hearBeacon (s : State) (b : BeaconIn) : State :=
  let hear := fun fresh (p : Peer) => p.hear fresh s.loader.station b s.beaconTicks s.sampleLimits
  if b.beacon.station = s.loader.station then
    if b.beacon.identity = s.loader.identity then s
    else if b.beacon.identity < s.loader.identity then s.enterConflict
    else s.surviveConflict b
  else if s.agr.peers.any (fun p => decide (p.station = b.beacon.station)) then
    let peers := s.agr.peers.map (fun p => if p.station = b.beacon.station then hear false p else p)
    { s with agr := { s.agr with peers := peers } }
  else if b.beacon.station ≤ 15 then
    let p := hear true { station := b.beacon.station, identity := b.beacon.identity }
    { s with agr := { s.agr with peers := s.agr.peers ++ [p] } }
  else
    { s with agr := { s.agr with refused := bump s.agr.refused }, req := s.req.raise .peerTableFull }

/-- BEACON_TAKEN (R37): the beacon dispatched is taken, or discarded in LOADING, HALTED and CONFLICT. -/
def beaconTaken (s : State) : State :=
  match s.agr.inbox with
  | none => s
  | some b =>
    let t := { s with agr := { s.agr with inbox := none } }
    if s.loader.state.beacons then t.hearBeacon b else t

/-- BEACON_TAKEN. -/
def execBeaconTaken (s : State) : Host.Outcome State Fault Refusal := .next (beaconTaken s)

/-- SILENCE_DEADLINE (R46), of the entry numbered `n`, when its deadline is reached: it falls SILENT, or, being SILENT, goes GONE. -/
def silenceDeadline (n : Fin 16) (s : State) : State :=
  match s.agr.peers.find? (fun p => decide (p.station = n.val)) with
  | none => s
  | some p =>
    if p.deadline ≤ s.clock.tick then
      if p.state = .silent then
        { s with agr := { s.agr with peers := s.agr.peers.filter (fun q => decide (q.station ≠ n.val)) },
                 req := s.req.raise .peerGone }
      else
        let fall := fun (q : Peer) => { q with state := .silent, deadline := s.clock.tick + 32 * s.beaconTicks }
        { s with agr := { s.agr with peers := s.agr.peers.map (fun q => if q.station = n.val then fall q else q) } }
    else s

/-- SILENCE_DEADLINE. -/
def execSilenceDeadline (n : Fin 16) (s : State) : Host.Outcome State Fault Refusal := .next (silenceDeadline n s)

/-! ### The round -/

/-- The samples of a ring taken within the last two rounds (R48). -/
def Peer.recent (p : Peer) (now beaconTicks : Nat) : List Sample :=
  p.ring.filter (fun x => decide (now < x.tick + 32 * beaconTicks))

/-- A candidate (R48): PAIRED, with at least two samples of the last two rounds. -/
def Peer.candidate (p : Peer) (now beaconTicks : Nat) : Bool :=
  decide (p.state = .paired) && decide (2 ≤ (p.recent now beaconTicks).length)

/-- The VALID peers (R48, R198): candidates that report SERVING; in ACQUIRE, where none does, those that report LISTEN or ACQUIRE. -/
def validPeers (peers : List Peer) (state : StationState) (now beaconTicks : Nat) : List Peer :=
  let cands := peers.filter (fun p => p.candidate now beaconTicks)
  let serving := cands.filter (fun p => decide (p.repState = StationState.serving.code))
  if state = .acquire ∧ serving = [] then
    cands.filter (fun p => decide (p.repState = StationState.listen.code) || decide (p.repState = StationState.acquire.code))
  else serving

/-- The sample of least delay, the most recent of equals (R49). -/
def bestSample (xs : List Sample) : Option Sample :=
  xs.foldl (fun best x => match best with
    | none => some x
    | some y => if x.delay ≤ y.delay then some x else some y) none

/-- The filtered offset of a VALID peer (R49). -/
def Peer.filteredOffset (p : Peer) (now beaconTicks : Nat) : Int :=
  match bestSample (p.recent now beaconTicks) with
  | some x => x.offset
  | none => 0

/-- The smallest and the largest member of a list that holds `x` and `xs`. -/
def smallest (x : Int) (xs : List Int) : Int := xs.foldl min x
def largest (x : Int) (xs : List Int) : Int := xs.foldl max x

/-- O after one largest and one smallest of four or more members are removed (R50); members of equal value are members each
(DEDUCED, log 18). -/
def trimOffsets (os : List Int) : List Int :=
  if os.length < 4 then os
  else
    match os with
    | [] => []
    | x :: xs => (os.erase (largest x xs)).erase (smallest x xs)

/-- The midpoint, truncated toward zero, and the spread of a list of offsets (R50). -/
def midpointSpread (os : List Int) : Int × Nat :=
  match os with
  | [] => (0, 0)
  | x :: xs => ((smallest x xs + largest x xs).tdiv 2, (largest x xs - smallest x xs).toNat)

/-- The set O of R50, before the removal. -/
def offsetSet (anchor : AnchorState) (valid : List Peer) (now beaconTicks : Nat) : List Int :=
  let anchored := valid.filter (fun p => decide (p.repAnchor = AnchorState.locked.code))
  if anchor ≠ .locked ∧ anchored ≠ [] then anchored.map (fun p => p.filteredOffset now beaconTicks)
  else 0 :: valid.map (fun p => p.filteredOffset now beaconTicks)

/-- What a round end computes (R48 to R51). -/
structure Round where
  anyValid : Bool
  midpoint : Int
  correction : Int
  spread : Nat
  cls : AgreementState
deriving DecidableEq, Repr

/-- The agreement class of a round (R51). -/
def agreementClass (anchor : AnchorState) (anyValid : Bool) (spread boundQuarters : Nat) : AgreementState :=
  if anchor = .locked then .anchored
  else if !anyValid then .alone
  else if spread ≤ boundQuarters then .agreed
  else .spread

/-- The agree bound of the image in force in quarter ns. -/
def State.agreeQuarters (s : State) : Nat :=
  match s.loader.config with
  | some c => c.agreeNs * 4
  | none => 800

/-- The computations of R48 to R51, at the present tick. -/
def State.round (s : State) : Round :=
  let valid := validPeers s.agr.peers s.loader.state s.clock.tick s.beaconTicks
  let ms := midpointSpread (trimOffsets (offsetSet s.clock.anchor.state valid s.clock.tick s.beaconTicks))
  { anyValid := !valid.isEmpty,
    midpoint := ms.1,
    correction := if s.clock.anchor.state = .locked then s.clock.anchor.correction.getD 0 else ms.1,
    spread := ms.2,
    cls := agreementClass s.clock.anchor.state (!valid.isEmpty) ms.2 s.agreeQuarters }

/-- Whether the image in force enables the anchor. -/
def State.anchorEnabled (s : State) : Bool :=
  match s.loader.config with
  | some c => c.anchorEnabled
  | none => false

/-- The step from the latest pulse date `d` onto the whole second nearest to `d` plus `m`, a half taking the later (R53). -/
def pulseStep (d : CageTime) (m : Int) : Int :=
  let q : Int := Config.quartersPerSec
  ((d.quarters : Int) + m + q / 2) / q * q - d.quarters

/-- The step of ACQUIRE (R53), or none. -/
def State.acquireStep (s : State) (r : Round) : Option Int :=
  match s.anchorEnabled && s.clock.anchor.seen, s.clock.anchor.latest with
  | true, some d => some (pulseStep d (if r.anyValid then r.midpoint else 0))
  | _, _ => if r.anyValid then some r.midpoint else none

/-- The correction rate of a round (R54), in ppb, truncated toward zero. -/
def correctionRate (c : Int) (beaconMs : Nat) : Int := (c * 1000000000).tdiv (4 * (16 * beaconMs * 1000000))

/-- The max slew of the image in force. -/
def State.maxSlew (s : State) : Int :=
  match s.loader.config with
  | some c => c.maxSlew
  | none => 50000

/-- New rate terms from a correction (R20, R54). -/
def Clock.steer (k : Clock) (c : Int) (beaconMs : Nat) (maxSlew : Int) : Clock :=
  let ppb := correctionRate c beaconMs
  { k with
    freq := clampInt (-200000) 200000 (k.freq + ppb.tdiv 8),
    slew := clampInt (-200000) 200000 (clampInt (-maxSlew) maxSlew ppb) }

/-- The stores every round end makes (R47, R50): correction and spread; the timer restarts; the pending anchor correction
is taken (R32). -/
def State.storeRound (s : State) (r : Round) : State :=
  { s with
    agr := { s.agr with correction := r.correction, spread := r.spread,
                        roundTimer := some (s.clock.tick + 16 * s.beaconTicks) },
    clock := { s.clock with anchor := { s.clock.anchor with correction := none } } }

/-- A round end in LISTEN (R52): the third puts the station in ACQUIRE. -/
def State.roundInListen (s : State) : State :=
  { s with
    agr := { s.agr with roundCount := s.agr.roundCount + 1 },
    loader := if 3 ≤ s.agr.roundCount + 1 then { s.loader with state := .acquire } else s.loader }

/-- The round end that ends ACQUIRE (R53): a step is asked for, and the station enters SERVING after its boundary; or, with
no step, at once. -/
def State.roundInAcquire (s : State) (step : Option Int) (cls : AgreementState) : State :=
  match step with
  | some c => { s with clock := { s.clock with pendingStep := some { correction := c } },
                       agr := { s.agr with servingAfterStep := some cls } }
  | none => s.enterServing cls

/-- A round end in SERVING (R51, R54). -/
def State.roundInServing (s : State) (r : Round) : State :=
  { s with
    clock := s.clock.steer r.correction s.beaconMs s.maxSlew,
    agr := { s.agr with agreement := r.cls },
    req := s.req.raiseIf (decide (r.cls = .spread)) .spread }

/-- ROUND_END (R47), when the round timer is due. -/
def roundEnd (s : State) : State :=
  if due s.agr.roundTimer s.clock.tick then
    let r := s.round
    let t := s.storeRound r
    match s.loader.state with
    | .listen => t.roundInListen
    | .acquire => t.roundInAcquire (s.acquireStep r) r.cls
    | .serving => t.roundInServing r
    | .loading | .halted | .conflict => t
  else s

/-- ROUND_END. -/
def execRoundEnd (s : State) : Host.Outcome State Fault Refusal := .next (roundEnd s)

end Sys2Proof.Machine
end

