-- ==== Sys2Proof/Machine/Classifier.lean ====
section
/-! DEFINITION. The Feed Classifier (chapter 4): the parse of a hand-off, feed matching, ranges, and the outcomes. -/

namespace Sys2Proof.Machine

/-- What the parse of R60 to R62 yields for a frame that is IPv4/UDP and no fragment. -/
structure Parsed where
  dest : Nat
  port : Nat
  /-- P0, the position of the UDP payload -/
  payload : Nat
  udpLength : Nat
deriving DecidableEq, Repr

/-- R60: the length of the Ethernet header, 14 or 18, when IPv4 follows it after at most one VLAN tag. -/
def etherLength (w : List Byte) : Option Nat :=
  if w.length < 14 then none
  else
    let t := natAt w 12 2
    if t = 0x8100 ∨ t = 0x88A8 then
      if w.length < 18 then none else if natAt w 16 2 = 0x0800 then some 18 else none
    else if t = 0x0800 then some 14 else none

/-- R61: the IPv4 header length, when the header is one of a UDP datagram's only fragment, and lies in the window. -/
def ipLength (w : List Byte) (e : Nat) : Option Nat :=
  if w.length < e + 1 then none
  else
    let b := natAt w e 1
    let h := b % 16 * 4
    if b / 16 ≠ 4 ∨ h < 20 ∨ w.length < e + h then none
    else if natAt w (e + 9) 1 ≠ 17 then none
    else if natAt w (e + 6) 2 % 16384 ≠ 0 then none
    else some h

/-- R60 to R62. -/
def parseFrame (w : List Byte) : Option Parsed :=
  match etherLength w with
  | none => none
  | some e =>
    match ipLength w e with
    | none => none
    | some h =>
      if w.length < e + h + 8 then none
      else some { dest := natAt w (e + 16) 4, port := natAt w (e + h + 2) 2, payload := e + h + 8,
                  udpLength := natAt w (e + h + 4) 2 }

/-- The payload bounds are bad (R62): the UDP length is below 8, or claims more payload than the frame carries. -/
def Parsed.badBounds (p : Parsed) (length : Nat) : Bool :=
  decide (p.udpLength < 8) || decide (length < p.udpLength - 8 + 4 + p.payload)

/-- The payload length L (R62). -/
def Parsed.payloadLength (p : Parsed) : Nat := p.udpLength - 8

/-- A number in the feed's byte order (R63). -/
def ByteOrder.number (o : ByteOrder) (bs : List Byte) : Nat :=
  match o with
  | .big => fromBE bs
  | .little => fromBE bs.reverse

/-- Whether the sequence field, and the count field where there is one, fit in a payload of length `l` (R63). -/
def FeedCfg.fits (f : FeedCfg) (l : Nat) : Bool :=
  decide (f.seqOffset + f.seqWidth ≤ l) &&
    match f.countOffset with
    | some co => decide (co + 2 ≤ l)
    | none => true

/-- The first sequence and the count read from a payload (R63). -/
def FeedCfg.readRange (f : FeedCfg) (w : List Byte) (payload : Nat) : Nat × Nat :=
  (f.order.number (slice w (payload + f.seqOffset) f.seqWidth),
   match f.countOffset with
   | some co => f.order.number (slice w (payload + co) 2)
   | none => 1)

/-- Whether a range's last sequence would exceed 2^64 - 1 (R64). -/
def rangeOverflows (first count : Nat) : Bool :=
  decide (1 ≤ count) && decide (18446744073709551615 < first + count - 1)

/-- The map index and slot that a destination address and port match (R65). -/
def matchFeed (feeds : List FeedSlot) (p : Parsed) : Option (Nat × FeedSlot) :=
  let hit := fun (f : FeedSlot) => decide (f.cfg.group = p.dest) && decide (f.cfg.port = p.port)
  match feeds.find? hit with
  | some f => some (feeds.findIdx hit, f)
  | none => none

/-- The outcomes of R65. -/
inductive Classified where
  /-- no record: reported to the Line Receiver, the chain released (R66, R67) -/
  | unmatched
  /-- R66, with the matched entry -/
  | damaged (slot : FeedSlot) (cause : FailCause)
  /-- R68, with the range when it could be read -/
  | stray (slot : FeedSlot) (first count : Nat)
  /-- R69 -/
  | malformed (slot : FeedSlot) (cause : MalformedCause)
  /-- R70 -/
  | range (index : Nat) (slot : FeedSlot) (first count : Nat)
deriving DecidableEq, Repr

/-- The range of a frame that matches an entry, or the cause why it has none (R69). -/
def readableRange (f : FeedCfg) (h : HandOff) (p : Parsed) : MalformedCause ⊕ (Nat × Nat) :=
  if p.badBounds h.length then .inl .badLength
  else if !f.fits p.payloadLength then .inl .shortPayload
  else
    let r := f.readRange h.window p.payload
    if rangeOverflows r.1 r.2 then .inl .rangeOverflow else .inr r

/-- The first case of R65 that holds. -/
def classify (feeds : List FeedSlot) (h : HandOff) : Classified :=
  match parseFrame h.window with
  | none => .unmatched
  | some p =>
    match matchFeed feeds p with
    | none => .unmatched
    | some (i, f) =>
      match h.cause with
      | some cause => .damaged f cause
      | none =>
        if f.cfg.onLine h.line then
          match readableRange f.cfg h p with
          | .inl cause => .malformed f cause
          | .inr r => .range i f r.1 r.2
        else
          match readableRange f.cfg h p with
          | .inl _ => .stray f 0 0
          | .inr r => .stray f r.1 r.2

/-- An ARRIVAL record made by the Feed Classifier, its chain trimmed to the feed's mode (R71, R129). -/
def HandOff.record (h : HandOff) (v : Verdict) (slot : FeedSlot) (first count : Nat) : ArrivalRec :=
  { verdict := v, feed := some slot.cfg.feed, line := h.line, first := first, count := count, date := h.date,
    length := h.length, captured := h.captured, truncated := h.truncated,
    chain := h.chain.map (fun c => c.trim slot.cfg.carriage) }

/-- A record handed to the Publisher by the Feed Classifier (R71). -/
def State.handClassifier (s : State) (a : ArrivalRec) : State :=
  { s with pub := { s.pub with fromClassifier := s.pub.fromClassifier ++ [.arrival a] } }

/-- The hand-off leaves and is reported unmatched, its chain released (R66, R67). -/
def State.reportUnmatched (s : State) (h : HandOff) : State :=
  { s with
    lines := s.lines.set h.line { (s.lines.get h.line) with unmatched := bump (s.lines.get h.line).unmatched },
    pool := s.pool.releaseOpt h.chain }

/-- What the Feed Classifier does with a hand-off (R65 to R71). -/
def State.classified (s : State) (h : HandOff) : State :=
  match classify s.feeds h with
  | .unmatched => s.reportUnmatched h
  | .damaged f cause =>
    let t := { s with feeds := modifyFeed s.feeds f.cfg.feed (fun x => { x with damaged := bump x.damaged }) }
    if f.cfg.onLine h.line then
      { t with pool := t.pool.trim h.chain f.cfg.carriage }.handClassifier
        { h.record .damaged f 0 0 with failCause := some cause }
    else
      { t with pool := t.pool.releaseOpt h.chain }.handClassifier
        { h.record .damaged f 0 0 with failCause := some cause, feed := none, chain := none }
  | .stray f first count =>
    { s with
      feeds := modifyFeed s.feeds f.cfg.feed (fun x => { x with stray := bump x.stray }),
      pool := s.pool.trim h.chain f.cfg.carriage }.handClassifier (h.record .stray f first count)
  | .malformed f cause =>
    { s with
      feeds := modifyFeed s.feeds f.cfg.feed (fun x => { x with malformed := bump x.malformed }),
      pool := s.pool.trim h.chain f.cfg.carriage }.handClassifier
        { h.record .malformed f 0 0 with malformedCause := some cause }
  | .range i f first count =>
    let a : Arrival := { index := i, feed := f.cfg.feed, line := h.line, date := h.date, first := first, count := count,
                         length := h.length, chain := h.chain, captured := h.captured, truncated := h.truncated }
    { s with arrivals := s.arrivals ++ [a] }

/-- CLASSIFY_HAND_OFF: the oldest hand-off of line `i` is taken (R72) and classified (R65). -/
def classifyHandOff (i : Line) (s : State) : State :=
  match s.handOffs.find? (fun h => decide (h.line = i)) with
  | none => s
  | some h => { s with handOffs := s.handOffs.eraseP (fun h => decide (h.line = i)) }.classified h

/-- CLASSIFY_HAND_OFF. -/
def execClassifyHandOff (i : Line) (s : State) : Host.Outcome State Fault Refusal := .next (classifyHandOff i s)

end Sys2Proof.Machine
end

