-- ==== Sys2Proof/Machine/ClockCmds.lean ====
section
/-! DEFINITION. The Station Clock (chapter 2): the local tick, steps, seconds writes, and the pulse with its anchor. -/

namespace Sys2Proof.Machine

/-- LOCAL_TICK (R16, R17, R19). -/
def localTick (s : State) : State := { s with clock := s.clock.advance }

/-- LOCAL_TICK. -/
def execLocalTick (s : State) : Host.Outcome State Fault Refusal := .next (localTick s)

/-! ### Steps and seconds writes -/

/-- The clock at a step's boundary (R22): cage time and the held pulse date move, the pending anchor correction goes. -/
def Clock.applyStep (c : Clock) (corr : Int) : Clock :=
  { c with
    acc := c.acc.step corr,
    move := { c.move with step := some corr },
    pendingStep := none,
    anchor := { c.anchor with latest := c.anchor.latest.map (fun d => d.shift corr), correction := none } }

/-- STEP (R22, R45, R53), when a step has been asked for and its boundary has come. The station enters SERVING after it, if
it is still the step of its ACQUIRE. -/
def clockStep (s : State) : State :=
  match s.clock.pendingStep with
  | none => s
  | some p =>
    if p.due then
      let t := { s with clock := s.clock.applyStep p.correction }.discardSamples
      match s.agr.servingAfterStep with
      | some cls => t.enterServing cls
      | none => t
    else s

/-- STEP. -/
def execClockStep (s : State) : Host.Outcome State Fault Refusal := .next (clockStep s)

/-- Whether a step falls on the latest boundary: it has been applied there, or its boundary has come and it waits (R23). -/
def Clock.stepFalls (c : Clock) : Bool :=
  c.move.step.isSome ||
    match c.pendingStep with
    | some p => p.due
    | none => false

/-- The Station Clock's test of a seconds value at the boundary (R23, R178). At a boundary on which a step falls the
station is still in ACQUIRE (R53), so the value is refused whichever of the two is taken first (DEDUCED, log 7). -/
def secondsAccepted (s : State) (v : Nat) : Bool :=
  match s.loader.state with
  | .listen | .acquire => !s.clock.stepFalls
  | .serving => !s.clock.stepFalls && decide (s.agr.agreement = .alone) && decide (s.clock.acc.sec < v)
  | .loading | .halted | .conflict => false

/-- The clock after an accepted seconds write (R23): the nanoseconds and their fraction are kept, and the held pulse date
moves by the difference. -/
def Clock.applySeconds (c : Clock) (v : Nat) : Clock :=
  let d : Int := v - c.acc.sec
  { c with
    acc := { c.acc with sec := v },
    move := { c.move with seconds := some d },
    pendingSeconds := none,
    anchor := { c.anchor with latest := c.anchor.latest.map (fun t => t.addSeconds d) } }

/-- The head request leaves the queue with a response (R170). -/
def ReqHandler.finish (r : ReqHandler) (res : Result) (data : List Byte) : ReqHandler :=
  match r.queue with
  | [] => r
  | q :: rest =>
    { r with
      queue := rest,
      parts := [],
      counts := { r.counts with
        wrongState := if res = Result.wrongState then bump r.counts.wrongState else r.counts.wrongState,
        badArgument := if res = Result.badArgument then bump r.counts.badArgument else r.counts.badArgument } }.respond
      (q.answer res data)

/-- SECONDS_WRITE (R23, R178), when a value has been handed over and its boundary has come. -/
def secondsWrite (s : State) : State :=
  match s.clock.pendingSeconds with
  | none => s
  | some p =>
    if p.due then
      if secondsAccepted s p.value then
        let t := { s with clock := s.clock.applySeconds p.value,
                          req := { s.req with latch := true } }.discardSamples
        { t with req := t.req.finish .ok (toBE 6 s.clock.acc.sec ++ toBE 6 p.value) }
      else
        { s with clock := { s.clock with pendingSeconds := none }, req := s.req.finish .wrongState [] }
    else s

/-- SECONDS_WRITE. -/
def execSecondsWrite (s : State) : Host.Outcome State Fault Refusal := .next (secondsWrite s)

/-! ### The pulse and the anchor -/

/-- The pulse error e in quarter ns (R29). -/
def pulseError (d : CageTime) : Int :=
  let e : Int := d.ns * 4 + d.quarter
  if d.ns < 500000000 then e else e - 4000000000

/-- The capture range of the image in force, in microseconds; its default stands in where none is (section 2.8). -/
def State.captureUs (s : State) : Nat :=
  match s.loader.config with
  | some c => c.captureUs
  | none => 50

/-- Whether a pulse error is within the capture range (R29). -/
def pulseGood (captureUs : Nat) (e : Int) : Bool := decide (e.natAbs ≤ captureUs * 4000)

/-- A date moved as a boundary moved cage time (R22, R23). -/
def CageTime.moved (d : CageTime) (m : BoundaryMove) : CageTime :=
  let d1 := match m.step with
    | some k => d.shift k
    | none => d
  match m.seconds with
  | some k => d1.addSeconds k
  | none => d1

/-- What was done at each boundary after the tick `n + 1` ticks ago, oldest first. -/
def Clock.movesSince (c : Clock) (n : Nat) : List BoundaryMove :=
  ((c.past.take n).map PastTick.move).reverse ++ [c.move]

/-- The date of a pulse sampled `ago` ticks before the present one (R22, R23, R25 to R27, R29): formed from its own tick's
C_tick and I, then moved as each boundary since moved cage time. None for a tick before the anchor was enabled, whose edges are
not dated (R29). -/
def Clock.pulseDate (c : Clock) (ago : Nat) (phase : Fin 16) : Option CageTime :=
  match ago with
  | 0 => some (c.date phase 0)
  | n + 1 => (c.past[n]?).map (fun t => (c.movesSince n).foldl CageTime.moved (dateOf t.acc t.incr phase.val 0))

/-- The end of a window that failed (R30, R31): LOCKED counts it, and at the third enters LOST. -/
def Anchor.windowFailed (a : Anchor) : Anchor :=
  match a.state with
  | .none => a
  | .seeking => { a with goodRun := 0 }
  | .locked =>
    if a.failedRun + 1 ≥ 3 then { a with failedRun := a.failedRun + 1, state := .lost, correction := none }
    else { a with failedRun := a.failedRun + 1 }
  | .lost => a

/-- The end of a window that succeeded, by a good pulse of error `e` (R31, R32). -/
def Anchor.goodPulse (a : Anchor) (e : Int) : Anchor :=
  match a.state with
  | .none => a
  | .seeking =>
    if a.goodRun + 1 ≥ 4 then { a with state := .locked, goodRun := 0, failedRun := 0, correction := some (-e) }
    else { a with goodRun := a.goodRun + 1 }
  | .locked => { a with failedRun := 0, correction := some (-e) }
  | .lost => { a with state := .seeking, goodRun := 1 }

/-- A pulse taken by the anchor (R29 to R32): date `d`, at local tick `now`. -/
def Anchor.pulse (a : Anchor) (captureUs : Nat) (d : CageTime) (now : Nat) : Anchor :=
  let b := { a with latest := some d, seen := true, pulses := bump a.pulses, window := some (now + Config.pulseWindowTicks) }
  if pulseGood captureUs (pulseError d) then b.goodPulse (pulseError d)
  else { b with bad := bump b.bad, failed := bump b.failed }.windowFailed

/-- PULSE (R29 to R32). While the anchor state is NONE an edge is not dated, taken or counted. -/
def pulse (ago : Nat) (phase : Fin 16) (s : State) : State :=
  if s.clock.anchor.state = .none then s
  else
    match s.clock.pulseDate ago phase with
    | none => s
    | some d =>
      let a := s.clock.anchor.pulse s.captureUs d s.clock.tick
      { s with clock := { s.clock with anchor := a },
               req := s.req.raiseIf (decide (a.state = .lost) && decide (s.clock.anchor.state ≠ .lost)) .anchorLost }

/-- PULSE. -/
def execPulse (ago : Nat) (phase : Fin 16) (s : State) : Host.Outcome State Fault Refusal :=
  .next (pulse ago phase s)

/-- PULSE_WINDOW_EXPIRY (R30, R31), when the window is due: it failed, and it restarts. -/
def pulseWindowExpiry (s : State) : State :=
  if due s.clock.anchor.window s.clock.tick then
    let a := { s.clock.anchor with failed := bump s.clock.anchor.failed,
                                   window := some (s.clock.tick + Config.pulseWindowTicks) }.windowFailed
    { s with clock := { s.clock with anchor := a },
             req := s.req.raiseIf (decide (a.state = .lost) && decide (s.clock.anchor.state ≠ .lost)) .anchorLost }
  else s

/-- PULSE_WINDOW_EXPIRY. -/
def execPulseWindowExpiry (s : State) : Host.Outcome State Fault Refusal := .next (pulseWindowExpiry s)

end Sys2Proof.Machine
end

