-- ==== Sys2Proof/Machine/Lines.lean ====
section
/-! DEFINITION. The Line Receivers (chapter 1) with the capture of bytes by the Page Pool (section 7.2): link events,
line timers, and the life of a frame from its start delimiter to its hand-off. -/

namespace Sys2Proof.Machine

/-! ### Link events and timers -/

/-- R1, on a line in DOWN. -/
def LineRx.linkUp (l : LineRx) (image : Bool) (deadline : Nat) : LineRx :=
  { l with state := .settling, settleErrors := 0, settleTimer := if image then some deadline else none }

/-- LINK_UP (R1). On a line not in DOWN the event does not occur (section 1.2). -/
def lineLinkUp (i : Line) (s : State) : State :=
  if (s.lines.get i).state = .down then
    s.modifyLine i (fun l => l.linkUp s.loader.state.hasImage
      (s.clock.tick + (s.lineCfg i).settleMs * Config.ticksPerMs))
  else s

/-- LINK_UP. -/
def execLinkUp (i : Line) (s : State) : Host.Outcome State Fault Refusal := .next (lineLinkUp i s)

/-- R2: the line of a link loss; a frame in flight is cut. -/
def LineRx.linkLoss (l : LineRx) : LineRx :=
  { l with state := .down, settleTimer := none, silenceTimer := none, frame := none,
           cut := if l.frame.isSome then bump l.cut else l.cut }

/-- The chain of the frame in flight. -/
def LineRx.chain (l : LineRx) : Option Chain :=
  match l.frame with
  | some f => f.chain
  | none => none

/-- LINK_LOSS (R2). On a line in DOWN the event does not occur. -/
def lineLinkLoss (i : Line) (s : State) : State :=
  if (s.lines.get i).state = .down then s
  else
    { s with lines := s.lines.set i (s.lines.get i).linkLoss,
             pool := s.pool.releaseOpt (s.lines.get i).chain,
             req := s.req.raise .lineDown }

/-- LINK_LOSS. -/
def execLinkLoss (i : Line) (s : State) : Host.Outcome State Fault Refusal := .next (lineLinkLoss i s)

/-- SETTLE_TIMER_EXPIRY (R3), when the line's settle timer is due. -/
def settleExpiry (i : Line) (s : State) : State :=
  let l := s.lines.get i
  if due l.settleTimer s.clock.tick then
    if l.settleErrors ≤ (s.lineCfg i).settleLimit then
      s.modifyLine i (fun l =>
        { l with state := .live, settleTimer := none,
                 silenceTimer := some (s.clock.tick + (s.lineCfg i).silenceMs * Config.ticksPerMs) })
    else
      (s.modifyLine i (fun l => { l with state := .faulted, settleTimer := none })).raise .lineFaulted
  else s

/-- SETTLE_TIMER_EXPIRY. -/
def execSettleTimerExpiry (i : Line) (s : State) : Host.Outcome State Fault Refusal := .next (settleExpiry i s)

/-- SILENCE_TIMER_EXPIRY (R4), when the line's silence timer is due. -/
def silenceExpiry (i : Line) (s : State) : State :=
  if due (s.lines.get i).silenceTimer s.clock.tick then
    (s.modifyLine i (fun l => { l with state := .silent, silenceTimer := none })).raise .lineSilent
  else s

/-- SILENCE_TIMER_EXPIRY. -/
def execSilenceTimerExpiry (i : Line) (s : State) : Host.Outcome State Fault Refusal := .next (silenceExpiry i s)

/-! ### The frame in flight -/

/-- The class of a frame that starts in a line state; in DOWN none starts (R6, section 1.2). -/
def LineState.frameClass : LineState → Option FrameClass
  | .down => none
  | .settling => some .settling
  | .live => some .live
  | .silent => some .live
  | .faulted => some .faulted

/-- The frame record opened at a start delimiter (R6), with a chain for a marked live frame on a line that carries payload (R124). -/
def openFrame (cls : FrameClass) (serving : Bool) (date : CageTime) (i : Line) (carriage : Carriage) : FrameRec :=
  let marked := decide (cls = .live) && serving
  { cls := cls, mark := marked, date := date,
    chain := if marked && decide (carriage ≠ .none) then some { line := i } else none }

/-- START_DELIMITER (R6, R25 to R27). A line in DOWN sees none, and a line has at most one frame in flight (section 1.4). -/
def startFrame (i : Line) (phase : Fin 16) (s : State) : State :=
  match (s.lines.get i).state.frameClass, (s.lines.get i).frame with
  | some cls, none =>
    s.modifyLine i (fun l => { l with frame := some (openFrame cls (decide (s.loader.state = .serving))
      (s.clock.date phase (s.lineCfg i).trim) i (lineCarriage s.feeds i)) })
  | _, _ => s

/-- START_DELIMITER. -/
def execStartDelimiter (i : Line) (phase : Fin 16) (s : State) : Host.Outcome State Fault Refusal :=
  .next (startFrame i phase s)

/-- What every byte of a frame does to its record (R7), the offer to the Page Pool apart. -/
def FrameRec.byte (f : FrameRec) (b : Byte) (codeError : Bool) : FrameRec :=
  { f with
    count := f.count + 1,
    crc := crcByte f.crc b,
    tail := (if f.tail.length < 4 then f.tail else f.tail.drop 1) ++ [{ before := f.crc, byte := b }],
    window := if f.window.length < Config.windowBytes then f.window ++ [b] else f.window,
    codeError := f.codeError || codeError }

/-- The chain the next byte of a frame is offered to (R7): a marked live frame's, up to the 1,536th byte, until a refusal. -/
def FrameRec.offers (f : FrameRec) : Option Chain :=
  if f.cls = .live ∧ f.mark ∧ ¬ f.truncated ∧ f.count < Config.offerLimit then f.chain else none

/-- FRAME_BYTE (R7, R125), for a line with a frame in flight. -/
def frameByte (i : Line) (b : Byte) (codeError : Bool) (s : State) : State :=
  match (s.lines.get i).frame with
  | none => s
  | some f =>
    let g := f.byte b codeError
    let put := fun (h : FrameRec) => s.lines.set i { (s.lines.get i) with frame := some h }
    match f.offers with
    | none => { s with lines := put g }
    | some c =>
      match s.pool.offer c (lineCarriage s.feeds i) with
      | .passed => { s with lines := put g }
      | .stored => { s with lines := put { g with chain := some (c.append b) } }
      | .newPage => { s with lines := put { g with chain := some (c.append b) }, pool := s.pool.take c.line }
      | .poolRefused =>
        { s with lines := put { g with truncated := true },
                 pool := { s.pool with poolRefusals := bump s.pool.poolRefusals },
                 req := s.req.raise .poolExhausted }
      | .quotaRefused =>
        { s with lines := put { g with truncated := true },
                 pool := { s.pool with quotaRefusals := bump s.pool.quotaRefusals },
                 req := s.req.raise .poolExhausted }

/-- FRAME_BYTE. -/
def execFrameByte (i : Line) (b : Byte) (codeError : Bool) (s : State) : Host.Outcome State Fault Refusal :=
  .next (frameByte i b codeError s)

/-- The frame check (R8): none when it passes, else the first failing cause in the order FCS, SHORT, LONG, CODE. -/
def FrameRec.check (f : FrameRec) : Option FailCause :=
  if ¬ tailMatches f.tail then some .fcs
  else if f.count < 64 then some .short
  else if 1536 < f.count then some .long
  else if f.codeError then some .codeError
  else none

/-- The captured length (R8): the smallest of the stored length, the byte count less four, and 1,532. -/
def FrameRec.captured (f : FrameRec) : Nat :=
  match f.chain with
  | some c => min c.stored (min (f.count - 4) 1532)
  | none => 0

/-- The hand-off item of a frame at its end (R10, R127). -/
def FrameRec.handOff (f : FrameRec) (i : Line) : HandOff :=
  { line := i, date := f.date, length := min f.count 65535, cause := f.check, window := f.window,
    chain := f.chain.map (fun c => { c with captured := some f.captured, truncated := f.truncated }),
    captured := f.captured, truncated := f.truncated }

/-- The line state and timers after a live frame that passes (R4). -/
def LineRx.heardLive (l : LineRx) (deadline : Nat) : LineRx :=
  match l.state with
  | .live => { l with silenceTimer := some deadline }
  | .silent => { l with state := .live, silenceTimer := some deadline }
  | .down => l
  | .settling => l
  | .faulted => l

/-- The line at the end of its frame `f` (R9): counters, settle error count, and the silence timer. -/
def LineRx.endFrame (l : LineRx) (f : FrameRec) (silenceDeadline : Nat) : LineRx :=
  let failed := f.check.isSome
  let m := { l with frame := none, frames := bump l.frames, fcsErrors := if failed then bump l.fcsErrors else l.fcsErrors }
  match f.cls with
  | .settling => { m with settleErrors := if failed ∧ l.state = .settling then l.settleErrors + 1 else l.settleErrors }
  | .faulted => m
  | .live =>
    let n := if failed then m else m.heardLive silenceDeadline
    if f.mark then { n with truncated := if f.truncated then bump n.truncated else n.truncated }
    else { n with preService := bump n.preService }

/-- FRAME_END (R8 to R10), for a line with a frame in flight: a marked live frame is handed to the Feed Classifier, any
other is discarded and its chain, where it has one, released. -/
def frameEnd (i : Line) (s : State) : State :=
  match (s.lines.get i).frame with
  | none => s
  | some f =>
    let t := s.modifyLine i (fun l => l.endFrame f (s.clock.tick + (s.lineCfg i).silenceMs * Config.ticksPerMs))
    if f.cls = .live ∧ f.mark then { t with handOffs := t.handOffs ++ [f.handOff i] }
    else { t with pool := t.pool.releaseOpt f.chain }

/-- FRAME_END. -/
def execFrameEnd (i : Line) (s : State) : Host.Outcome State Fault Refusal := .next (frameEnd i s)

end Sys2Proof.Machine
end

