-- ==== Sys2Proof/Machine/LoaderCmds.lean ====
section
/-! DEFINITION. The Loader (chapter 11): power-on, the tests of a configuration image (R188), its clamping (R189, section 12.6),
acceptance (R190) and rejection (R192). -/

namespace Sys2Proof.Machine

/-- POWER_ON (R186, R187): every block at its power-on values, the station number read from the straps. The identity is the
factory's, and the commands that wait are outside the station. -/
def powerOn (straps : Fin 16) (s : State) : State :=
  { State.reset with loader := { station := straps.val, identity := s.loader.identity }, pending := s.pending }

/-- POWER_ON. -/
def execPowerOn (straps : Fin 16) (s : State) : Host.Outcome State Fault Refusal := .next (powerOn straps s)

/-! ### Reading the flash -/

/-- The first `n` bytes of the flash; what does not answer reads as all ones (R188). -/
def readFlash (flash : List Byte) (n : Nat) : List Byte := (flash ++ List.replicate n 0xFF).take n

/-- The bytes of the image's fixed part, of a feed entry, and of the CRC field (section 12.6). -/
def fixedBytes : Nat := 112
def entryBytes : Nat := 40

/-- The format tag (section 12.6). -/
def imageTag : Nat := 0x4C543831

/-- The feed count of an image. -/
def imageFeeds (img : List Byte) : Nat := natAt img 108 2

/-- The length of an image of `n` feeds (R188, section 12.6). -/
def imageLength (n : Nat) : Nat := fixedBytes + entryBytes * n + 4

/-- The bytes of the `k`-th feed entry. -/
def entryAt (img : List Byte) (k : Nat) : List Byte := slice img (fixedBytes + entryBytes * k) entryBytes

/-- Every feed entry, in map order. -/
def imageEntries (img : List Byte) : List (List Byte) := (List.range (imageFeeds img)).map (entryAt img)

/-- Tests 4 and 5 of R188 on an entry: a line above 7, equal lines. -/
def entryBadLine (e : List Byte) : Bool :=
  decide (7 < natAt e 1 1) || (decide (7 < natAt e 2 1) && decide (natAt e 2 1 ≠ 255))
def entrySameLines (e : List Byte) : Bool := decide (natAt e 2 1 ≠ 255) && decide (natAt e 1 1 = natAt e 2 1)

/-- Whether a list repeats a member. -/
def repeats : List Nat → Bool
  | [] => false
  | x :: xs => decide (x ∈ xs) || repeats xs

/-- The first test of R188 that an image read from the flash fails; none where it passes. -/
def imageFault (flash : List Byte) : Option RejectCause :=
  let head := readFlash flash fixedBytes
  let n := imageFeeds head
  let img := readFlash flash (imageLength n)
  let es := imageEntries img
  if natAt head 0 4 ≠ imageTag then some .badTag
  else if 32 < n ∨ natAt head 4 4 ≠ imageLength n then some .badLength
  else if (crc32 (img.take (imageLength n - 4))).toNat ≠ natAt img (imageLength n - 4) 4 then some .badCrc
  else if es.any entryBadLine then some .badLine
  else if es.any entrySameLines then some .sameLines
  else if repeats (es.map (fun e => natAt e 0 1)) then some .duplicateFeed
  else if repeats (es.map (fun e => natAt e 8 6)) then some .duplicateAddress
  else none

/-! ### Clamping (R189) -/

/-- A field brought into force, with 1 when it was clamped or replaced and 0 when not. -/
structure Clamped (α : Type) where
  value : α
  changed : Nat
deriving DecidableEq, Repr

/-- A numeric field of `k` bytes at `off`: the encoding DEFAULT, all ones, takes the default; else it is clamped. -/
def numField (bs : List Byte) (off k default lo hi : Nat) : Clamped Nat :=
  let n := natAt bs off k
  if n = 256 ^ k - 1 then ⟨default, 0⟩ else if n < lo then ⟨lo, 1⟩ else if hi < n then ⟨hi, 1⟩ else ⟨n, 0⟩

/-- The sequence width. -/
def widthField (e : List Byte) : Clamped Nat :=
  match natAt e 3 1 with
  | 4 => ⟨4, 0⟩
  | 8 => ⟨8, 0⟩
  | _ => ⟨8, 1⟩

/-- The sequence byte order. -/
def orderField (e : List Byte) : Clamped ByteOrder :=
  match natAt e 4 1 with
  | 1 => ⟨.big, 0⟩
  | 2 => ⟨.little, 0⟩
  | _ => ⟨.big, 1⟩

/-- The payload carriage. -/
def carriageField (e : List Byte) : Clamped Carriage :=
  match natAt e 5 1 with
  | 0 => ⟨.none, 0⟩
  | 1 => ⟨.header, 0⟩
  | 2 => ⟨.full, 0⟩
  | _ => ⟨.none, 1⟩

/-- The count offset: all ones means absent (section 12.6). -/
def countOffsetField (e : List Byte) : Clamped (Option Nat) :=
  if natAt e 7 1 = 255 then ⟨none, 0⟩
  else ⟨some (numField e 7 1 0 0 63).value, (numField e 7 1 0 0 63).changed⟩

/-- A feed entry, with the number of its fields that were clamped. -/
def feedEntry (e : List Byte) : Clamped FeedCfg :=
  let seqOffset := numField e 6 1 0 0 63
  let hold := numField e 16 4 2000 10 1000000
  let jump := numField e 20 8 100000 1 4294967295
  let rewind := numField e 28 8 1000000 1 1099511627776
  { value :=
      { feed := natAt e 0 1, group := natAt e 8 4, port := natAt e 12 2, aLine := Fin.ofNat 8 (natAt e 1 1),
        bLine := if natAt e 2 1 = 255 then none else some (Fin.ofNat 8 (natAt e 2 1)),
        seqOffset := seqOffset.value, seqWidth := (widthField e).value, order := (orderField e).value,
        countOffset := (countOffsetField e).value, carriage := (carriageField e).value, gapHoldUs := hold.value,
        jumpLimit := jump.value, rewind := rewind.value },
    changed := seqOffset.changed + (widthField e).changed + (orderField e).changed + (countOffsetField e).changed +
      (carriageField e).changed + hold.changed + jump.changed + rewind.changed }

/-- The fields of line `k`. -/
def lineFields (img : List Byte) (k : Nat) : Clamped LineCfg :=
  let trim := numField img (44 + 8 * k) 2 0 0 16383
  let settle := numField img (46 + 8 * k) 2 100 1 10000
  let limit := numField img (48 + 8 * k) 2 0 0 255
  let silence := numField img (50 + 8 * k) 2 1000 1 60000
  { value := { trim := trim.value, settleMs := settle.value, settleLimit := limit.value, silenceMs := silence.value },
    changed := trim.changed + settle.changed + limit.changed + silence.changed }

/-- The segment protocol type code: one below 0x0600 becomes the start-up value. -/
def typeField (img : List Byte) : Clamped Nat :=
  if natAt img 10 2 < 0x0600 then ⟨Config.startupType, 1⟩ else ⟨natAt img 10 2, 0⟩

/-- The default alert enables: all ones enables every condition; other names of no condition are lost. -/
def enablesField (img : List Byte) : Clamped CondSet :=
  let n := natAt img 40 4
  if n = 0xFFFFFFFF then ⟨BitVec.allOnes 15, 0⟩
  else ⟨BitVec.ofNat 15 n, if n < 32768 then 0 else 1⟩

/-- The eight lines' fields. -/
def imageLines (img : List Byte) : PerLine (Clamped LineCfg) :=
  ⟨lineFields img 0, lineFields img 1, lineFields img 2, lineFields img 3, lineFields img 4, lineFields img 5,
   lineFields img 6, lineFields img 7⟩

/-- The configuration an image gives, its feed map, and the clamped-field count (R189, section 12.6). -/
structure Accepted where
  config : ImageCfg
  feeds : List FeedCfg
  clamped : Nat
deriving DecidableEq, Repr

/-- What an image that passes the tests brings into force. -/
def readImage (img : List Byte) : Accepted :=
  let typ := typeField img
  let beacon := numField img 18 2 4 1 100
  let agree := numField img 20 4 200 10 100000
  let slew := numField img 24 4 50000 1000 200000
  let minDelay := numField img 28 4 50 0 10000
  let maxDelay := numField img 32 2 100 1 1000
  let capture := numField img 36 2 50 1 1000
  let batch := numField img 38 2 4 1 50
  let enables := enablesField img
  let lines := imageLines img
  let feeds := (imageEntries img).map feedEntry
  { config :=
      { cageNumber := natAt img 8 2, typeCode := typ.value, group := BitVec.ofNat 48 (natAt img 12 6),
        beaconMs := beacon.value, agreeNs := agree.value, maxSlew := slew.value, minDelayNs := minDelay.value,
        maxDelayUs := maxDelay.value, anchorEnabled := decide (natAt img 34 1 ≠ 0), captureUs := capture.value,
        batchUs := batch.value, enables := enables.value, lines := lines.map Clamped.value },
    feeds := feeds.map Clamped.value,
    clamped := typ.changed + beacon.changed + agree.changed + slew.changed + minDelay.changed + maxDelay.changed +
      capture.changed + batch.changed + enables.changed + (lines.map Clamped.changed).toList.sum +
      (feeds.map Clamped.changed).sum }

/-! ### Acceptance and rejection -/

/-- A line at the acceptance of an image (R14). -/
def LineRx.accepted (l : LineRx) (cfg : LineCfg) (now : Nat) : LineRx :=
  if l.state = .settling then { l with settleTimer := some (now + cfg.settleMs * Config.ticksPerMs) } else l

/-- The eight lines at the acceptance. -/
def acceptLines (ls : PerLine LineRx) (cfg : PerLine LineCfg) (now : Nat) : PerLine LineRx :=
  ⟨ls.l0.accepted cfg.l0 now, ls.l1.accepted cfg.l1 now, ls.l2.accepted cfg.l2 now, ls.l3.accepted cfg.l3 now,
   ls.l4.accepted cfg.l4 now, ls.l5.accepted cfg.l5 now, ls.l6.accepted cfg.l6 now, ls.l7.accepted cfg.l7 now⟩

/-- The anchor at the acceptance (R33). -/
def Anchor.accepted (a : Anchor) (enabled : Bool) (now : Nat) : Anchor :=
  if enabled then { a with state := .seeking, window := some (now + Config.pulseWindowTicks) }
  else { a with state := .none }

/-- The Agreement Unit at the acceptance (R34, R47, R56). -/
def Agreement.accepted (a : Agreement) (beaconMs now : Nat) (link : LinkState) : Agreement :=
  { a with
    beaconNumber := 0, roundCount := 0,
    beaconTimer := some (now + beaconMs * Config.ticksPerMs),
    roundTimer := some (now + 16 * (beaconMs * Config.ticksPerMs)) }.makeDue link

/-- The image comes into force in every block (R190). -/
def State.accept (s : State) (a : Accepted) : State :=
  { s with
    loader := { s.loader with state := .listen, imageStatus := .accepted, clamped := a.clamped, config := some a.config },
    clock := { s.clock with anchor := s.clock.anchor.accepted a.config.anchorEnabled s.clock.tick },
    agr := s.agr.accepted a.config.beaconMs s.clock.tick s.port.link,
    lines := acceptLines s.lines a.config.lines s.clock.tick,
    feeds := a.feeds.map (fun f => { cfg := f }),
    req := (s.req.enable a.config.enables).raiseIf (decide (0 < a.clamped)) .configClamped }

/-- A refused image puts the station in HALTED, with every alert condition enabled (R188, R192, R185). -/
def State.reject (s : State) (cause : RejectCause) : State :=
  { s with
    loader := { s.loader with state := .halted, imageStatus := .rejected cause, clamped := 0 },
    req := s.req.enable (BitVec.allOnes 15) }

/-- IMAGE_READ_DONE (R188 to R190, R192), of the read that LOADING began: `flash` is what the serial flash answered. -/
def imageReadDone (flash : List Byte) (s : State) : State :=
  if s.loader.state = .loading then
    match imageFault flash with
    | some cause => s.reject cause
    | none => s.accept (readImage (readFlash flash (imageLength (imageFeeds (readFlash flash fixedBytes)))))
  else s

/-- IMAGE_READ_DONE. -/
def execImageReadDone (flash : List Byte) (s : State) : Host.Outcome State Fault Refusal := .next (imageReadDone flash s)

end Sys2Proof.Machine
end

