-- ==== Sys2Proof/Machine/Tables.lean ====
section
/-! DEFINITION. The arbitration table (chapter 5): classes of sequences, runs, gaps, the range log, and the procedure that
enters a range. Local arrivals (R80) and peer claims (R106) both work through these operations. -/

namespace Sys2Proof.Machine

/-! ### Claims -/

/-- The triple of a claim is earlier than or equal to another's (00 section 5.4, R79). -/
def Winner.notAfter (a b : Winner) : Bool :=
  a.date.before b.date ||
    (decide (a.date = b.date) &&
      (decide (a.station < b.station) || (decide (a.station = b.station) && decide (a.line ≤ b.line))))

/-- The lead of an arrival dated `d` over a winner (R79), saturated at 2^31 - 1. -/
def leadOver (d : CageTime) (w : Winner) : Nat := min (d.quarters - w.date.quarters) 2147483647

/-! ### Intervals -/

/-- The parts of `[a, b]` outside `[s, e]`: the lower part first. -/
def cutOut (s e a b : Nat) : List (Nat × Nat) :=
  (if a < s then [(a, min b (s - 1))] else []) ++ (if e < b then [(max a (e + 1), b)] else [])

/-- The part of `[a, b]` inside `[s, e]`. -/
def overlap (s e a b : Nat) : Option (Nat × Nat) :=
  if max s a ≤ min e b then some (max s a, min e b) else none

/-- `p` put in its place in a list in ascending order of first. -/
def insertPiece (p : Nat × Nat) : List (Nat × Nat) → List (Nat × Nat)
  | [] => [p]
  | q :: qs => if p.1 ≤ q.1 then p :: q :: qs else q :: insertPiece p qs

/-- The pieces in ascending order of first. -/
def sortPieces (ps : List (Nat × Nat)) : List (Nat × Nat) := ps.foldr insertPiece []

/-- Pieces that touch made one run: a run is a maximal set of consecutive sequences of one class (R78). -/
def joinPieces : List (Nat × Nat) → List (Nat × Nat)
  | [] => []
  | p :: ps =>
    match joinPieces ps with
    | [] => [p]
    | q :: qs => if q.1 ≤ p.2 + 1 then (p.1, max p.2 q.2) :: qs else p :: q :: qs

/-- What is left of a list of pieces outside every hole. -/
def removeHoles (ps holes : List (Nat × Nat)) : List (Nat × Nat) :=
  holes.foldl (fun qs h => qs.flatMap (fun q => cutOut h.1 h.2 q.1 q.2)) ps

/-! ### Classes of sequences (R78) -/

/-- The table state (R75). -/
def Table.state (t : Table) : TableState :=
  match t.high with
  | none => .unsynced
  | some _ => if t.gaps = [] then .inOrder else .gapped

/-- H; zero stands in while it is undefined, where no rule reads it. -/
def Table.h (t : Table) : Nat := t.high.getD 0

/-- Whether an entry contains a sequence. -/
def LogEntry.contains (x : LogEntry) (n : Nat) : Bool := decide (x.first ≤ n) && decide (n ≤ x.last)

/-- The range log entry that contains a sequence. -/
def Table.entryAt (t : Table) (n : Nat) : Option LogEntry := t.log.find? (fun x => x.contains n)

/-- Whether a sequence is lost (R78). -/
def Table.isLost (t : Table) (n : Nat) : Bool := t.log.any (fun x => decide (x.kind = .lost) && x.contains n)

/-- The runs of unseen sequences of `[s, e]` (R78): in gaps, or at or above H. -/
def Table.unseenRuns (t : Table) (s e : Nat) : List (Nat × Nat) :=
  joinPieces (sortPieces (t.gaps.filterMap (fun g => overlap s e g.first g.last) ++
    if t.h ≤ e then [(max s t.h, e)] else []))

/-- The LOST entries' ranges. -/
def Table.lostRanges (t : Table) : List (Nat × Nat) :=
  t.log.filterMap (fun x => if x.kind = .lost then some (x.first, x.last) else none)

/-- The runs of lost sequences of `[s, e]` (R78). -/
def Table.lostRuns (t : Table) (s e : Nat) : List (Nat × Nat) :=
  joinPieces (sortPieces (t.lostRanges.filterMap (fun p => overlap s e p.1 p.2)))

/-- The seen parts of `[s, e]` (R78): below H, in no gap and in no LOST entry. -/
def Table.seenParts (t : Table) (s e : Nat) : List (Nat × Nat) :=
  if s < t.h then
    removeHoles [(s, min e (t.h - 1))] (t.gaps.map (fun g => (g.first, g.last)) ++ t.lostRanges)
  else []

/-! ### The range log (R77) -/

/-- An entry inserted at the newest end; a full log first loses its oldest (R77). -/
def logInsert (log : List LogEntry) (x : LogEntry) : List LogEntry :=
  (log ++ [x]).drop (log.length + 1 - Config.logLimit)

/-- `x` put in its place in ascending order of first sequence. -/
def insertEntry (x : LogEntry) : List LogEntry → List LogEntry
  | [] => [x]
  | y :: ys => if x.first ≤ y.first then x :: y :: ys else y :: insertEntry x ys

/-- New entries inserted in ascending order of first sequence (R85). -/
def logInsertAll (log xs : List LogEntry) : List LogEntry := (xs.foldr insertEntry []).foldl logInsert log

/-- A LOST entry for a range (R94, R95). -/
def lostEntry (first last : Nat) : LogEntry := { first := first, last := last, kind := .lost, winner := none }

/-- A claim entry for a run. -/
def claimEntry (kind : EntryKind) (w : Winner) (run : Nat × Nat) : LogEntry :=
  { first := run.1, last := run.2, kind := kind, winner := some w }

/-- What stays in place of an entry when the lost sequences of `[s, e]` are claimed (R85 step 2): the lower part that
remains, else the upper, else nothing. -/
def LogEntry.shrinkLost (x : LogEntry) (s e : Nat) : List LogEntry :=
  if x.kind = .lost then
    match cutOut s e x.first x.last with
    | [] => []
    | p :: _ => [{ x with first := p.1, last := p.2 }]
  else [x]

/-- The upper part inserted as a new LOST entry when both parts of one remain (R85 step 2). -/
def LogEntry.upperLost (x : LogEntry) (s e : Nat) : List LogEntry :=
  if x.kind = .lost then
    match cutOut s e x.first x.last with
    | _ :: p :: _ => [lostEntry p.1 p.2]
    | _ => []
  else []

/-- An entry with a new winner and kind, in its place (R77, R91, R110, R111, R113). -/
def Table.rename (t : Table) (n : Nat) (kind : EntryKind) (w : Winner) : Table :=
  let hit := fun (x : LogEntry) => x.contains n
  { t with log := t.log.modify (t.log.findIdx hit) (fun x => { x with kind := kind, winner := some w }) }

/-! ### Gaps -/

/-- A LOST gap to be told of in a record (R98). -/
structure LostGap where
  first : Nat
  last : Nat
  cause : LossCause
deriving DecidableEq, Repr

/-- The gap list after a run or a range of claimed sequences `[s, e]` (R93): gaps shrink, split or close, keeping their ticks. -/
def fillGaps (gaps : List Gap) (s e : Nat) : List Gap :=
  gaps.flatMap (fun g => (cutOut s e g.first g.last).map (fun p => { g with first := p.1, last := p.2 }))

/-- The gap opened below a first sequence `s` above H (R92). -/
def openGap (gaps : List Gap) (h s now hold : Nat) : List Gap :=
  if h < s then gaps ++ [{ first := h, last := s - 1, opened := now, deadline := now + hold }] else gaps

/-- The eviction of R94: of 9 gaps the lowest goes. -/
def evictGap (gaps : List Gap) : List Gap × Option Gap :=
  if Config.gapLimit < gaps.length then (gaps.drop 1, gaps.head?) else (gaps, none)

/-- The table with a gap evicted from it counted (R94, R99). -/
def LocalCounts.countEvicted (k : LocalCounts) (ev : Option Gap) : LocalCounts :=
  if ev.isSome then { k with evicted := bump k.evicted } else k

/-- The loss an eviction is told as (R94, R98). -/
def evictedLoss (ev : Option Gap) : List LostGap :=
  match ev with
  | some g => [{ first := g.first, last := g.last, cause := .evicted }]
  | none => []

/-- The LOST entry of an eviction (R94). -/
def evictedEntry (ev : Option Gap) : List LogEntry :=
  match ev with
  | some g => [lostEntry g.first g.last]
  | none => []

/-! ### Entering a range (R85, R108) -/

/-- A claim being entered: its range, its winner, the kind its unseen runs take, and the tick and gap hold of a gap it opens. -/
structure Claim where
  first : Nat
  last : Nat
  winner : Winner
  kind : EntryKind
  now : Nat
  hold : Nat
deriving DecidableEq, Repr

/-- The gap list after the procedure, and the gap evicted. -/
def Table.enteredGaps (t : Table) (c : Claim) : List Gap × Option Gap :=
  evictGap (openGap (fillGaps t.gaps c.first c.last) t.h c.first c.now c.hold)

/-- The procedure of R85 on a table that is not UNSYNCED, and the loss it makes. -/
def Table.enter (t : Table) (c : Claim) : Table × List LostGap :=
  let g := t.enteredGaps c
  let news :=
    (t.unseenRuns c.first c.last).map (claimEntry c.kind c.winner) ++
      (t.lostRuns c.first c.last).map (claimEntry .lateClaim c.winner) ++
      t.log.flatMap (fun x => x.upperLost c.first c.last) ++ evictedEntry g.2
  ({ t with
      high := some (max t.h (c.last + 1)),
      gaps := g.1,
      log := logInsertAll (t.log.flatMap (fun x => x.shrinkLost c.first c.last)) news,
      counts := t.counts.countEvicted g.2 },
   evictedLoss g.2)

/-- The first range of an UNSYNCED table (R82, R108 case 2). -/
def Table.start (t : Table) (c : Claim) : Table :=
  { t with high := some (c.last + 1), log := logInsert t.log (claimEntry c.kind c.winner (c.first, c.last)) }

/-- A reset of the table (R84, R107), and the losses it makes. -/
def Table.resetTo (t : Table) (c : Claim) : Table × List LostGap :=
  ({ t with
      high := some (c.last + 1),
      gaps := [],
      log := [claimEntry c.kind c.winner (c.first, c.last)],
      counts := { t.counts with resetGaps := bumpBy t.gaps.length t.counts.resetGaps } },
   t.gaps.map (fun g => { first := g.first, last := g.last, cause := .byReset }))

/-- A keepalive's effect on the table (R81), and the loss it makes. -/
def Table.keepalive (t : Table) (s now hold jump : Nat) : Table × List LostGap :=
  match t.high with
  | none => ({ t with high := some s }, [])
  | some h =>
    if h < s ∧ s ≤ h + jump then
      let g := evictGap (openGap t.gaps h s now hold)
      ({ t with high := some s, gaps := g.1, log := logInsertAll t.log (evictedEntry g.2),
                counts := t.counts.countEvicted g.2 }, evictedLoss g.2)
    else (t, [])

/-- The cases 2 to 8 of R80, which R106 shares. Case 6 is FIRST or FILL. -/
inductive RangeCase where
  | unsynced
  | wild
  | reset
  | late
  | first
  | fill
  | partialFill
  | allSeen
deriving DecidableEq, Repr

/-- The first of the cases 2 to 8 of R80 that holds for a range `[s, e]`. -/
def Table.rangeCase (t : Table) (jump rewind s e : Nat) : RangeCase :=
  match t.high with
  | none => .unsynced
  | some h =>
    if h + jump < s then .wild
    else if s + rewind < h then .reset
    else if t.isLost s then .late
    else if t.seenParts s e = [] then (if h ≤ s then .first else .fill)
    else if t.unseenRuns s e = [] ∧ t.lostRuns s e = [] then .allSeen
    else .partialFill

/-! ### Expiry (R95) -/

/-- The earliest deadline of a gap list. -/
def earliestDeadline (gaps : List Gap) : Option Nat :=
  gaps.foldl (fun m g => match m with
    | none => some g.deadline
    | some d => some (min d g.deadline)) none

/-- The gaps of a table that fall on deadline tick `d`. -/
def Table.expiring (t : Table) (d : Nat) : List Gap := t.gaps.filter (fun g => decide (g.deadline = d))

/-- The table after the expiry of the gaps of deadline tick `d` (R95). -/
def Table.expire (t : Table) (d : Nat) : Table :=
  { t with
    gaps := t.gaps.filter (fun g => decide (g.deadline ≠ d)),
    log := ((t.expiring d).map (fun g => lostEntry g.first g.last)).foldl logInsert t.log,
    counts := { t.counts with expired := bumpBy (t.expiring d).length t.counts.expired } }

/-- The LOST records of a list of losses, in the order given (R98). -/
def lostRecords (feed : Nat) (reading : CageTime) (ls : List LostGap) : List Record :=
  ls.map (fun l => .lost feed l.first (l.last + 1 - l.first) l.cause reading)

/-- The slot of a map index replaced. -/
def State.setSlot (s : State) (i : Nat) (x : FeedSlot) : State := { s with feeds := s.feeds.set i x }

/-- GAP_EXPIRY (R95), on the table of map index `i`, when the local tick count has reached its earliest gap deadline: the
gaps of that deadline tick expire together. -/
def gapExpiry (i : Fin 32) (s : State) : State :=
  match s.feeds[i.val]? with
  | none => s
  | some f =>
    match earliestDeadline f.table.gaps with
    | none => s
    | some d =>
      if d ≤ s.clock.tick then
        let losses := (f.table.expiring d).map (fun g => ({ first := g.first, last := g.last, cause := .expired } : LostGap))
        ((s.setSlot i.val { f with table := f.table.expire d }).handArbiter
          (lostRecords f.cfg.feed s.clock.reading losses)).raise .gapLost
      else s

/-- GAP_EXPIRY. -/
def execGapExpiry (i : Fin 32) (s : State) : Host.Outcome State Fault Refusal := .next (gapExpiry i s)

end Sys2Proof.Machine
end

