-- ==== Sys2Proof/Machine/LocalArrivals.lean ====
section
/-! DEFINITION. The Sequence Arbiter's judgement of local arrivals (section 5.3) and the ARRIVAL records it makes (R97). -/

namespace Sys2Proof.Machine

/-- One verdict counted (R99); STRAY, MALFORMED and DAMAGED do not reach the tables. -/
def LocalCounts.count (k : LocalCounts) (v : Verdict) : LocalCounts :=
  match v with
  | .first => { k with first := bump k.first }
  | .fill => { k with fill := bump k.fill }
  | .partialFill => { k with partialFill := bump k.partialFill }
  | .late => { k with late := bump k.late }
  | .reset => { k with reset := bump k.reset }
  | .takeover => { k with takeover := bump k.takeover }
  | .duplicate => { k with duplicate := bump k.duplicate }
  | .keepalive => { k with keepalive := bump k.keepalive }
  | .stale => { k with stale := bump k.stale }
  | .wild => { k with wild := bump k.wild }
  | .stray => k
  | .malformed => k
  | .damaged => k

/-- What the arbiter makes of a local arrival: the verdict, the table after it, the losses it makes, the lead of a
DUPLICATE and the displaced winner of a TAKEOVER. -/
structure Judgement where
  verdict : Verdict
  table : Table
  losses : List LostGap := []
  lead : Option Nat := none
  displaced : Option Winner := none
deriving DecidableEq, Repr

/-- An arrival all of whose sequences are seen (R89 to R91), judged by the entry at its first sequence. -/
def Table.judgeSeen (t : Table) (s : Nat) (w : Winner) : Judgement :=
  match (t.entryAt s).bind LogEntry.winner with
  | none => { verdict := .stale, table := t }
  | some v =>
    if v.notAfter w then { verdict := .duplicate, table := t, lead := some (leadOver w.date v) }
    else { verdict := .takeover, table := t.rename s .localClaim w, displaced := some v }

/-- The judgement of R80 on an arrival of first sequence `s` and count `c`. -/
def Table.judge (t : Table) (cfg : FeedCfg) (s c : Nat) (w : Winner) (now : Nat) : Judgement :=
  let hold := cfg.gapHoldUs * Config.ticksPerUs
  if c = 0 then
    let r := t.keepalive s now hold cfg.jumpLimit
    { verdict := .keepalive, table := r.1, losses := r.2 }
  else
    let claim : Claim := { first := s, last := s + c - 1, winner := w, kind := .localClaim, now := now, hold := hold }
    let entered := fun (v : Verdict) => ({ verdict := v, table := (t.enter claim).1, losses := (t.enter claim).2 } : Judgement)
    match t.rangeCase cfg.jumpLimit cfg.rewind s (s + c - 1) with
    | .unsynced => { verdict := .first, table := t.start claim }
    | .wild => { verdict := .wild, table := t }
    | .reset => { verdict := .reset, table := (t.resetTo claim).1, losses := (t.resetTo claim).2 }
    | .late => entered .late
    | .first => entered .first
    | .fill => entered .fill
    | .partialFill => entered .partialFill
    | .allSeen => t.judgeSeen s w

/-- The table of a judgement with its verdict counted (R99). -/
def Judgement.counted (j : Judgement) : Table := { j.table with counts := j.table.counts.count j.verdict }

/-- The triple of a local arrival (R79). -/
def Arrival.winner (a : Arrival) (own : Nat) : Winner := { station := own, line := a.line.val, date := a.date }

/-- The ARRIVAL record of a judged arrival (R97), its chain trimmed to the feed's mode (R129). -/
def Arrival.record (a : Arrival) (j : Judgement) (mode : Carriage) : ArrivalRec :=
  { verdict := j.verdict, feed := some a.feed, line := a.line, first := a.first, count := a.count, date := a.date,
    length := a.length, lead := j.lead, displaced := j.displaced, captured := a.captured, truncated := a.truncated,
    chain := a.chain.map (fun c => c.trim mode) }

/-- The judgement of an arrival against the table of its feed as the state stands. -/
def State.judge (s : State) (a : Arrival) (f : FeedSlot) : Judgement :=
  f.table.judge f.cfg a.first a.count (a.winner s.loader.station) s.clock.tick

/-- The arbiter takes an arrival (R80): the table changes, the LOST records go ahead of the ARRIVAL record (R98). -/
def State.takeArrival (s : State) (a : Arrival) (f : FeedSlot) : State :=
  let j := s.judge a f
  { s.setSlot a.index { f with table := j.counted } with
    pool := s.pool.trim a.chain f.cfg.carriage }.handArbiter
    (lostRecords f.cfg.feed s.clock.reading j.losses ++ [Record.arrival (a.record j f.cfg.carriage)])

/-- LOCAL_ARRIVAL: the oldest classified arrival of line `i` is taken (R74, R80). An arrival whose table is gone, which no
run reaches, leaves with its chain released. -/
def localArrival (i : Line) (s : State) : State :=
  match s.arrivals.find? (fun a => decide (a.line = i)) with
  | none => s
  | some a =>
    let t := { s with arrivals := s.arrivals.eraseP (fun a => decide (a.line = i)) }
    match s.feeds[a.index]? with
    | some f => t.takeArrival a f
    | none => { t with pool := t.pool.releaseOpt a.chain }

/-- LOCAL_ARRIVAL. -/
def execLocalArrival (i : Line) (s : State) : Host.Outcome State Fault Refusal := .next (localArrival i s)

end Sys2Proof.Machine
end

