-- ==== Sys2Proof/Machine/PeerClaims.lean ====
section
/-! DEFINITION. What the Sequence Arbiter does with the records peers publish (chapter 6): refusal, sorting, peer claims,
yields, and the counted rest. -/

namespace Sys2Proof.Machine

/-! ### Reading a record (section 12.4) -/

/-- The kind code of a record. -/
def recordKind (r : List Byte) : Nat := natAt r 0 1

/-- The verdict code of an ARRIVAL record, the cause or flags of another. -/
def recordCode (r : List Byte) : Nat := natAt r 1 1

/-- The length field of a record. -/
def recordLength (r : List Byte) : Nat := natAt r 2 2

/-- The claim verdict codes, 1 to 6 (section 12.4). -/
def isClaimCode (n : Nat) : Bool := decide (1 ≤ n) && decide (n ≤ 6)

/-- The encoded length that a record's kind, or an ARRIVAL record's payload length, gives (R104, R197); none for an
unknown kind. -/
def expectedLength (r : List Byte) : Option Nat :=
  match recordKind r with
  | 1 => some (64 + roundUp8 (natAt r 22 2))
  | 2 => some 48
  | 3 => some 32
  | 4 => some 48
  | 5 => some 32
  | _ => none

/-- The range of a record overflows (R104): first plus count less one exceeds 2^64 - 1. -/
def recordOverflows (r : List Byte) : Bool := decide (18446744073709551616 < natAt r 8 8 + natAt r 16 2)

/-- Whether an ARRIVAL record's content is out of range (R104). The lead, the payload and the displaced winner are not
read (R105); the count and overflow test is that of a claim verdict (DEDUCED, log 22). -/
def badArrival (r : List Byte) : Bool :=
  decide (recordCode r = 0) || decide (13 < recordCode r) || decide (7 < natAt r 6 1) || !(timeAt r 24).valid ||
    (isClaimCode (recordCode r) && (decide (natAt r 16 2 = 0) || recordOverflows r))

/-- Whether a YIELD record's content is out of range, `q` being the publishing station (R104). -/
def badYield (r : List Byte) (q : Nat) : Bool :=
  decide (15 < natAt r 5 1) || decide (7 < natAt r 6 1) || decide (7 < natAt r 7 1) ||
    !(timeAt r 20).valid || !(timeAt r 30).valid || decide (natAt r 16 2 = 0) || recordOverflows r ||
    decide (natAt r 5 1 = q)

/-- Whether a record is refused (R104, R197). -/
def refusedRecord (r : List Byte) (q : Nat) : Bool :=
  match expectedLength r with
  | none => true
  | some n =>
    decide (recordLength r ≠ n) ||
      match recordKind r with
      | 1 => badArrival r
      | 2 => badYield r q
      | 3 => !(timeAt r 20).valid
      | 4 => !(timeAt r 24).valid || !(timeAt r 34).valid
      | _ => !(timeAt r 8).valid || !(timeAt r 18).valid

/-- The cage feed number a record names: none on SUMMARY and MARK, which are passed over whatever they name, and none on
an ARRIVAL record with the feed-absent flag (R104, R197). -/
def recordFeed (r : List Byte) : Option Nat :=
  match recordKind r with
  | 1 => if natAt r 5 1 % 2 = 1 then none else some (natAt r 4 1)
  | 2 => some (natAt r 4 1)
  | 3 => some (natAt r 4 1)
  | _ => none

/-! ### Peer claims -/

/-- A table after a peer claim, the losses it makes, and the range given up with this station's line and date when the
station yields (R110). -/
structure PeerJudgement where
  table : Table
  losses : List LostGap := []
  yielded : Option (LogEntry × Winner) := none
deriving DecidableEq, Repr

/-- A peer claim all of whose sequences are seen (R109 to R111). -/
def Table.comparePeer (t : Table) (s own : Nat) (w : Winner) : PeerJudgement :=
  match t.entryAt s with
  | none => { table := { t with peer := { t.peer with unrecorded := bump t.peer.unrecorded } } }
  | some x =>
    match x.winner with
    | none => { table := { t with peer := { t.peer with unrecorded := bump t.peer.unrecorded } } }
    | some v =>
      let u := t.rename s .peerClaim w
      if v.notAfter w then { table := { t with peer := { t.peer with notEarlier := bump t.peer.notEarlier } } }
      else if v.station = own then
        { table := { u with peer := { t.peer with yieldsMade := bump t.peer.yieldsMade } }, yielded := some (x, v) }
      else { table := { u with peer := { t.peer with replaced := bump t.peer.replaced } } }

/-- A peer claim entered (R108), counted as such. -/
def Table.enterPeer (r : Table × List LostGap) : PeerJudgement :=
  { table := { r.1 with peer := { r.1.peer with entered := bump r.1.peer.entered } }, losses := r.2 }

/-- The judgement of a peer claim by the cases of R106; the claims counter rises for every one. -/
def Table.judgePeer (t : Table) (cfg : FeedCfg) (s c own : Nat) (w : Winner) (now : Nat) : PeerJudgement :=
  let u := { t with peer := { t.peer with claims := bump t.peer.claims } }
  let claim : Claim := { first := s, last := s + c - 1, winner := w, kind := .peerClaim, now := now,
                         hold := cfg.gapHoldUs * Config.ticksPerUs }
  match u.rangeCase cfg.jumpLimit cfg.rewind s (s + c - 1) with
  | .unsynced => Table.enterPeer (u.start claim, [])
  | .wild => { table := { u with peer := { u.peer with wild := bump u.peer.wild } } }
  | .reset =>
    let r := u.resetTo claim
    { table := { r.1 with peer := { r.1.peer with resets := bump r.1.peer.resets } }, losses := r.2 }
  | .late => Table.enterPeer (u.enter claim)
  | .first => Table.enterPeer (u.enter claim)
  | .fill => Table.enterPeer (u.enter claim)
  | .partialFill => Table.enterPeer (u.enter claim)
  | .allSeen => u.comparePeer s own w

/-- The YIELD record of an entry given up to `w` (R110). -/
def yieldRecord (feed : Nat) (w : Winner) (y : LogEntry × Winner) : Record :=
  .yielded feed y.1.first (y.1.last + 1 - y.1.first) w y.2.line y.2.date

/-- The records a peer claim makes: the losses, or the one YIELD. -/
def PeerJudgement.records (j : PeerJudgement) (feed : Nat) (w : Winner) (reading : CageTime) : List Record :=
  lostRecords feed reading j.losses ++ (match j.yielded with | some y => [yieldRecord feed w y] | none => [])

/-! ### Peer yields -/

/-- Whether a YIELD of station `q` at `s` is applied (R113): the table is not UNSYNCED, `s` is seen, and the entry that
contains it names `q`. -/
def Table.yieldApplies (t : Table) (s q : Nat) : Bool :=
  match t.high, t.entryAt s with
  | some _, some x => decide (t.seenParts s s ≠ []) && decide ((x.winner.map Winner.station) = some q)
  | _, _ => false

/-- A peer YIELD at a table (R113, R114): applied to the claim entry at `s` when that names the yielding station `q`. -/
def Table.applyYield (t : Table) (s q own : Nat) (w : Winner) : Table :=
  if t.yieldApplies s q then
    let u := t.rename s (if w.station = own then .localClaim else .peerClaim) w
    { u with peer := { t.peer with yieldsApplied := bump t.peer.yieldsApplied } }
  else { t with peer := { t.peer with yieldsIgnored := bump t.peer.yieldsIgnored } }

/-! ### Taking a record -/

/-- The winner a claim record of station `q` names (R105). -/
def claimWinner (r : List Byte) (q : Nat) : Winner := { station := q, line := natAt r 6 1, date := timeAt r 24 }

/-- The new winner a YIELD record names (section 12.4). -/
def yieldWinner (r : List Byte) : Winner := { station := natAt r 5 1, line := natAt r 6 1, date := timeAt r 20 }

/-- A record of station `q` that names the mapped feed `f` (R104): a claim, a YIELD, or one that is counted only
(R115, R116). -/
def State.recordAtTable (s : State) (r : List Byte) (q : Nat) (f : FeedSlot) : State :=
  let put := fun (t : Table) => modifyFeed s.feeds f.cfg.feed (fun x => { x with table := t })
  if recordKind r = 1 then
    if isClaimCode (recordCode r) then
      let w := claimWinner r q
      let j := f.table.judgePeer f.cfg (natAt r 8 8) (natAt r 16 2) s.loader.station w s.clock.tick
      { s with feeds := put j.table }.handArbiter (j.records f.cfg.feed w s.clock.reading)
    else
      { s with feeds := put { f.table with peer := { f.table.peer with nonClaims := bump f.table.peer.nonClaims } } }
  else if recordKind r = 2 then
    { s with feeds := put (f.table.applyYield (natAt r 8 8) q s.loader.station (yieldWinner r)) }
  else
    { s with feeds := put { f.table with peer := { f.table.peer with lost := bump f.table.peer.lost } } }

/-- What becomes of one record the arbiter reaches (R103, R104). -/
inductive RecordFate where
  /-- taken while the station is not in SERVING -/
  | outOfService
  | refused
  /-- a SUMMARY, a MARK, or a record that names no mapped feed -/
  | passedOver
  | atTable (slot : FeedSlot)
deriving DecidableEq, Repr

/-- The fate of a record of station `q` (R103, then R104). -/
def State.recordFate (s : State) (r : List Byte) (q : Nat) : RecordFate :=
  if s.loader.state ≠ .serving then .outOfService
  else if refusedRecord r q then .refused
  else
    match (recordFeed r).bind (findFeed s.feeds) with
    | some f => .atTable f
    | none => .passedOver

/-- One record taken (R103, R104). -/
def State.takeRecord (s : State) (r : List Byte) (q : Nat) : State :=
  match s.recordFate r q with
  | .outOfService => { s with arbiter := { s.arbiter with outOfService := bump s.arbiter.outOfService } }
  | .refused => { s with arbiter := { s.arbiter with refused := bump s.arbiter.refused } }
  | .passedOver => { s with arbiter := { s.arbiter with passedOver := bump s.arbiter.passedOver } }
  | .atTable f => s.recordAtTable r q f

/-- PEER_RECORD (R102): the next record of the frame the arbiter holds is taken. A frame that bears this station's own
number, or one above 15, has every record passed over and is counted misnumbered (R102), in every station state: outside SERVING
none of its records is counted out of service by R103 as well (DEDUCED, log 45). -/
def peerRecord (s : State) : State :=
  match s.arbiter.frame with
  | none => s
  | some f =>
    if f.station = s.loader.station ∨ 15 < f.station then
      { s with arbiter := { s.arbiter with frame := none, misnumbered := bump s.arbiter.misnumbered } }
    else
      match f.records with
      | [] => { s with arbiter := { s.arbiter with frame := none } }
      | r :: rest =>
        let left := if rest = [] then none else some { f with records := rest }
        { s with arbiter := { s.arbiter with frame := left } }.takeRecord r f.station

/-- PEER_RECORD. -/
def execPeerRecord (s : State) : Host.Outcome State Fault Refusal := .next (peerRecord s)

end Sys2Proof.Machine
end

