-- ==== Sys2Proof/Machine/PublisherCmds.lean ====
section
/-! DEFINITION. The Publisher (chapter 8): taking records, shedding, stripping and dropping, the move into the frame under
assembly, the batch timer, and marks. -/

namespace Sys2Proof.Machine

/-! ### Taking a record (R141) -/

/-- The records a maker has handed over and the Publisher has not yet taken, oldest first. -/
def Publisher.waiting (p : Publisher) : Maker → List Record
  | .classifier => p.fromClassifier
  | .arbiter => p.fromArbiter
  | .marks => p.fromMarks

/-- The same list replaced. -/
def Publisher.setWaiting (p : Publisher) (m : Maker) (rs : List Record) : Publisher :=
  match m with
  | .classifier => { p with fromClassifier := rs }
  | .arbiter => { p with fromArbiter := rs }
  | .marks => { p with fromMarks := rs }

/-- The depth of the queue (section 8.1). -/
def Publisher.depth (p : Publisher) : Nat := p.queue.length

/-- The feed and date of a record of a shed verdict (R144); such a record names a mapped feed. -/
def Record.shedAs : Record → Option ArrivalRec
  | .arrival a => if a.verdict.isShed then some a else none
  | .yielded _ _ _ _ _ _ | .lost _ _ _ _ _ | .summary _ _ | .mark _ _ _ _ => none

/-- Whether a record carries a payload to strip (R143). -/
def Record.hasPayload : Record → Bool
  | .arrival a => decide (0 < a.heldLength)
  | .yielded _ _ _ _ _ _ | .lost _ _ _ _ _ | .summary _ _ | .mark _ _ _ _ => false

/-- Whether the four shed counts of a feed are all zero. -/
def ShedCounts.clear (c : ShedCounts) : Bool :=
  decide (c.duplicate = 0) && decide (c.keepalive = 0) && decide (c.stale = 0) && decide (c.stray = 0)

/-- The first and the last shed date after a record of a date is shed (R144): it is the last, and the first too when the four
counts were all zero before it. -/
def ShedCounts.datesWith (c : ShedCounts) (date : CageTime) : CageTime × CageTime :=
  (if c.clear then date else match c.dates with
    | some p => p.1
    | none => date, date)

/-- One record shed in its feed's shed counts (R144). -/
def ShedCounts.count (c : ShedCounts) (v : Verdict) (date : CageTime) : ShedCounts :=
  let d := { c with dates := some (c.datesWith date) }
  match v with
  | .duplicate => { d with duplicate := bump c.duplicate }
  | .keepalive => { d with keepalive := bump c.keepalive }
  | .stale => { d with stale := bump c.stale }
  | .stray => { d with stray := bump c.stray }
  | .first | .fill | .partialFill | .late | .reset | .takeover | .wild | .malformed | .damaged => c

/-- The slots after a record is shed: that of the feed it names counts it. -/
def shedInto (feeds : List FeedSlot) (a : ArrivalRec) : List FeedSlot :=
  match a.feed with
  | some n => modifyFeed feeds n (fun f => { f with shed := f.shed.count a.verdict a.date })
  | none => feeds

/-- A record is shed (R144, R131). -/
def State.shedRecord (s : State) (a : ArrivalRec) : State :=
  { s with
    feeds := shedInto s.feeds a,
    pool := s.pool.releaseOpt a.chain,
    pub := { s.pub with counts := { s.pub.counts with shed := bump s.pub.counts.shed } } }

/-- A record is dropped from the full queue (R146, R131). -/
def State.dropRecord (s : State) (r : Record) : State :=
  { s with
    pool := s.pool.releaseOpt r.chain,
    pub := { s.pub with drop := bump s.pub.drop,
                        counts := { s.pub.counts with dropped := bump s.pub.counts.dropped } },
    req := s.req.raise .recordsDropped }

/-- A record stripped of its payload (R143). -/
def Record.stripped : Record → Record
  | .arrival a => .arrival { a with payloadShed := true, chain := a.chain.map Chain.emptied }
  | .yielded f a b w l d => .yielded f a b w l d
  | .lost f a b c r => .lost f a b c r
  | .summary f c => .summary f c
  | .mark t a b l => .mark t a b l

/-- The payload of a record stripped on entry (R143, R131), and the record as it enters the queue. -/
def State.stripRecord (s : State) (r : Record) : State :=
  { s with
    pool := s.pool.releaseOpt r.chain,
    pub := { s.pub with counts := { s.pub.counts with stripped := bump s.pub.counts.stripped } } }

/-- A record enqueued at the tail and counted (R137, R141 step 5). -/
def Publisher.enqueue (p : Publisher) (r : Record) : Publisher :=
  { p with queue := p.queue ++ [r], counts := { p.counts with queued := bump p.counts.queued } }

/-- Entry to SHEDDING, when the depth has come to 768 in NORMAL (R142). -/
def State.checkShedding (s : State) : State :=
  if s.pub.depth = Config.shedDepth ∧ s.pub.state = .normal then
    { s with pub := { s.pub with state := .shedding }, req := s.req.raise .shedding }
  else s

/-- A record enqueued, with the entry to SHEDDING it may bring, and the closing condition it may bring by not fitting at
the head of the queue (R141, R142, R148). -/
def State.enqueueRecord (s : State) (r : Record) : State :=
  ({ s with pub := s.pub.enqueue r } : State).checkShedding.checkFull

/-- Steps 3 to 5 of R141. -/
def State.queueRecord (s : State) (r : Record) : State :=
  if s.pub.depth = Config.queueLimit then s.dropRecord r
  else if s.pub.state = .shedding ∧ r.hasPayload then (s.stripRecord r).enqueueRecord r.stripped
  else s.enqueueRecord r

/-- A record taken (R141). -/
def State.publish (s : State) (r : Record) : State :=
  if s.loader.state ≠ .serving then { s with pool := s.pool.releaseOpt r.chain }
  else
    match r.shedAs with
    | some a => if s.pub.state = .shedding then s.shedRecord a else s.queueRecord r
    | none => s.queueRecord r

/-- RECORD_TAKEN (R141): the next record of the maker, in the order made. -/
def recordTaken (m : Maker) (s : State) : State :=
  match s.pub.waiting m with
  | [] => s
  | r :: rest => ({ s with pub := s.pub.setWaiting m rest } : State).publish r

/-- RECORD_TAKEN. -/
def execRecordTaken (m : Maker) (s : State) : Host.Outcome State Fault Refusal := .next (recordTaken m s)

/-! ### Frames (section 8.6) -/

/-- The batch timer duration of the image in force, in local ticks; its default stands in where none is. -/
def State.batchTicks (s : State) : Nat :=
  match s.loader.config with
  | some c => c.batchUs * Config.ticksPerUs
  | none => 1000

/-- The SUMMARY records of R145, in ascending order of map index. -/
def summaries (feeds : List FeedSlot) : List Record :=
  feeds.filterMap (fun f => if f.shed.clear then none else some (.summary f.cfg.feed f.shed))

/-- The return to NORMAL with its SUMMARY records (R145), when the depth has fallen to 256 in SHEDDING. -/
def State.checkNormal (s : State) : State :=
  if s.pub.depth = Config.normalDepth ∧ s.pub.state = .shedding then
    let rs := summaries s.feeds
    { s with
      feeds := s.feeds.map (fun f => { f with shed := {} }),
      pub := { s.pub with
        state := .normal, queue := s.pub.queue ++ rs,
        counts := { s.pub.counts with queued := bumpBy rs.length s.pub.counts.queued,
                                      summaries := bumpBy rs.length s.pub.counts.summaries } } }
  else s

/-- The head of the queue `r` moves into the frame under assembly (R137, R147); the first record starts the batch timer. -/
def Publisher.enter (p : Publisher) (r : Record) (rest : List Record) (deadline : Nat) : Publisher :=
  { p with
    queue := rest,
    asm := p.asm ++ [r],
    asmState := .filling,
    batchTimer := if p.asmState = .empty then some deadline else p.batchTimer }

/-- RECORD_ENTERS_FRAME (R147), when the frame is EMPTY or FILLING and the head of the queue fits. -/
def recordEntersFrame (s : State) : State :=
  match s.pub.queue with
  | [] => s
  | r :: rest =>
    if s.pub.asmState ≠ .complete ∧ s.pub.fits r then
      ({ s with pub := s.pub.enter r rest (s.clock.tick + s.batchTicks) } : State).checkNormal.checkFull
    else s

/-- RECORD_ENTERS_FRAME. -/
def execRecordEntersFrame (s : State) : Host.Outcome State Fault Refusal := .next (recordEntersFrame s)

/-- BATCH_TIMER_EXPIRY (R148), of a FILLING frame whose timer is due. -/
def batchTimerExpiry (s : State) : State :=
  if s.pub.asmState = .filling ∧ due s.pub.batchTimer s.clock.tick then s.closingCondition else s

/-- BATCH_TIMER_EXPIRY. -/
def execBatchTimerExpiry (s : State) : Host.Outcome State Fault Refusal := .next (batchTimerExpiry s)

/-! ### Marks (section 8.7) -/

/-- A mark fires: its record is handed to the Publisher itself, and counted (R151, R152). -/
def Publisher.fire (p : Publisher) (m : ArmedMark) (reading : CageTime) (late : Bool) : Publisher :=
  { p with
    fromMarks := p.fromMarks ++ [.mark m.tag m.target reading late],
    counts := { p.counts with marksFired := bump p.counts.marksFired,
                              marksLate := if late then bump p.counts.marksLate else p.counts.marksLate } }

/-- MARK_FIRE (R152): the armed mark, when the reading is at or above its target. -/
def markFire (s : State) : State :=
  match s.pub.mark with
  | none => s
  | some m =>
    if s.clock.reading.before m.target then s
    else { s with pub := { s.pub with mark := none }.fire m s.clock.reading false }

/-- MARK_FIRE. -/
def execMarkFire (s : State) : Host.Outcome State Fault Refusal := .next (markFire s)

/-- A MARK request taken by the Publisher, and whether it found a mark armed and fires late (R151). -/
structure MarkTaken where
  pub : Publisher
  replaced : Bool
  late : Bool
deriving DecidableEq, Repr

/-- The four cases of R151. -/
def Publisher.takeMark (p : Publisher) (m : ArmedMark) (reading : CageTime) : MarkTaken :=
  if reading.before m.target then { pub := { p with mark := some m }, replaced := p.mark.isSome, late := false }
  else { pub := { p with mark := none }.fire m reading true, replaced := p.mark.isSome, late := true }

end Sys2Proof.Machine
end

