-- ==== Sys2Proof/Machine/Frames.lean ====
section
/-! DEFINITION. The frames the station sends, byte by byte (R160, chapter 12): the common header, beacons, publication frames
with their records, responses and alerts. -/

namespace Sys2Proof.Machine

/-! ### The values in force (section 9.3) -/

/-- The cage group address in force (R161). -/
def State.group (s : State) : Identity :=
  match s.loader.config with
  | some c => c.group
  | none => Config.startupGroup

/-- The segment protocol type code in force (R161). -/
def State.typeCode (s : State) : Nat :=
  match s.loader.config with
  | some c => c.typeCode
  | none => Config.startupType

/-- The cage number in frames sent: 0 while no image is in force (section 9.3). -/
def State.cageSent (s : State) : Nat :=
  match s.loader.config with
  | some c => c.cageNumber
  | none => 0

/-! ### The frame -/

/-- The common segment header (section 12.2), 26 bytes. -/
def State.header (s : State) (kind : FrameKind) (station : Nat) (identity : Identity) (length : Nat) : List Byte :=
  toBE 6 s.group.toNat ++ toBE 6 s.loader.identity.toNat ++ toBE 2 s.typeCode ++ toBE 1 kind.code ++ toBE 1 station ++
    toBE 2 s.cageSent ++ toBE 6 identity.toNat ++ toBE 2 length

/-- Zeros to a frame of 64 bytes with its frame check sequence (R196). -/
def padFrame (bs : List Byte) : List Byte := bs ++ zeros (60 - bs.length)

/-- A frame ended with its frame check sequence (R160, R8). -/
def withFcs (bs : List Byte) : List Byte := bs ++ fcsBytes (crc32 bs)

/-- A frame of a kind with its content (R160). -/
def State.buildFrame (s : State) (kind : FrameKind) (station : Nat) (identity : Identity) (content : List Byte) : TxFrame :=
  { kind := kind, bytes := withFcs (padFrame (s.header kind station identity content.length ++ content)) }

/-! ### Beacons (R35, section 12.3) -/

/-- An echo entry, 24 bytes. -/
def EchoEntry.encode (e : EchoEntry) : List Byte :=
  toBE 1 e.station ++ zeros 1 ++ timeBytes e.t1 ++ timeBytes e.t2 ++ zeros 2

/-- A beacon's content. -/
def Beacon.encode (b : Beacon) : List Byte :=
  toBE 1 b.state ++ toBE 1 b.agreement ++ toBE 1 b.anchor ++ toBE 1 b.echoes.length ++ toBE 4 b.number ++
    toBESat 4 b.spread ++ timeBytes b.departure ++ zeros 2 ++ b.echoes.flatMap EchoEntry.encode

/-! ### Records (section 12.4) -/

/-- Four bytes that open a record. -/
def recordHead (kind code length : Nat) : List Byte := toBE 1 kind ++ toBE 1 code ++ toBE 2 length

/-- The flags of an ARRIVAL record. -/
def ArrivalRec.flags (a : ArrivalRec) : Nat :=
  (if a.feed.isNone then 1 else 0) + (if a.truncated then 2 else 0) + (if a.payloadShed then 4 else 0) +
    (if a.payloadFault then 8 else 0)

/-- The cause byte of an ARRIVAL record. -/
def ArrivalRec.cause (a : ArrivalRec) : Nat :=
  match a.failCause, a.malformedCause with
  | some c, _ => c.code
  | none, some c => c.code
  | none, none => 0

/-- The displaced winner of an ARRIVAL record, 12 bytes, zeros where absent (R196). -/
def displacedBytes : Option Winner → List Byte
  | some w => toBE 1 w.station ++ toBE 1 w.line ++ timeBytes w.date
  | none => zeros 12

/-- The two shed dates of a SUMMARY record, zeros where absent (R196). -/
def shedDateBytes : Option (CageTime × CageTime) → List Byte
  | some p => timeBytes p.1 ++ timeBytes p.2
  | none => zeros 20

/-- An ARRIVAL record with its payload. -/
def ArrivalRec.encode (a : ArrivalRec) (payload : List Byte) : List Byte :=
  recordHead 1 a.verdict.code (64 + roundUp8 payload.length) ++ toBE 1 (a.feed.getD 0) ++ toBE 1 a.flags ++
    toBE 1 a.line.val ++ toBE 1 a.cause ++ toBE 8 a.first ++ toBE 2 a.count ++ toBE 2 a.length ++ toBE 2 a.captured ++
    toBE 2 payload.length ++ timeBytes a.date ++ toBE 4 (a.lead.getD 0) ++ displacedBytes a.displaced ++ zeros 14 ++
    padTo 8 payload

/-- A record with the payload read out for it. -/
def Record.encode (r : Record) (payload : List Byte) : List Byte :=
  match r with
  | .arrival a => a.encode payload
  | .yielded feed first count w line date =>
    recordHead 2 0 48 ++ toBE 1 feed ++ toBE 1 w.station ++ toBE 1 w.line ++ toBE 1 line ++ toBE 8 first ++ toBE 2 count ++
      zeros 2 ++ timeBytes w.date ++ timeBytes date ++ zeros 8
  | .lost feed first count cause reading =>
    recordHead 3 cause.code 32 ++ toBE 1 feed ++ zeros 3 ++ toBE 8 first ++ toBE 4 count ++ timeBytes reading ++ zeros 2
  | .summary feed c =>
    recordHead 4 0 48 ++ toBE 1 feed ++ zeros 3 ++ toBE 4 c.duplicate ++ toBE 4 c.keepalive ++ toBE 4 c.stale ++
      toBE 4 c.stray ++ shedDateBytes c.dates ++ zeros 4
  | .mark tag target firing late =>
    recordHead 5 (if late then 1 else 0) 32 ++ toBE 4 tag ++ timeBytes target ++ timeBytes firing ++ zeros 4

/-- The 16 bytes that open a publication frame's content. -/
def ReadyFrame.head (f : ReadyFrame) : List Byte :=
  toBE 4 f.number ++ toBE 1 f.agreement.code ++ toBE 1 f.records.length ++ zeros 2 ++ toBESat 4 f.spread ++ toBE 4 f.drop

/-! ### Responses and alerts (section 12.5) -/

/-- A response's content. -/
def Response.encode (p : Response) : List Byte :=
  toBE 1 p.code ++ toBE 1 p.result.code ++ toBE 6 p.requester ++ toBE 4 p.tag ++ toBE 2 p.data.length ++ zeros 2 ++ p.data

/-- The four bytes of a set of conditions (R196). -/
def setBytes (c : CondSet) : List Byte := toBE 4 c.toNat

/-- An ALERT frame's content (R183). -/
def alertContent (state : StationState) (r : ReqHandler) : List Byte :=
  toBE 1 state.code ++ zeros 1 ++ toBE 4 r.alertNumber ++ zeros 2 ++ setBytes r.set ++ setBytes r.fresh ++
    setBytes r.enabled

end Sys2Proof.Machine
end

