-- ==== Sys2Proof/Machine/Receive.lean ====
section
/-! DEFINITION. The receive side of the segment port (chapter 9): the dating of frames, the filter, the receive queue, dispatch
by frame kind, the frame number check, and the arrival of requests, RESTART among them (R169, R173). -/

namespace Sys2Proof.Machine

/-! ### The start delimiter -/

/-- SEGMENT_START_DELIMITER (R27, section 9.4): a frame begins to be received, dated with trim 0. While the link is DOWN none
does, and the port receives one frame at a time. -/
def segmentStart (phase : Fin 16) (s : State) : State :=
  if s.port.link = .up ∧ s.port.rx = none then
    { s with port := { s.port with rx := some { date := s.clock.date phase 0 } } }
  else s

/-- SEGMENT_START_DELIMITER. -/
def execSegmentStartDelimiter (phase : Fin 16) (s : State) : Host.Outcome State Fault Refusal :=
  .next (segmentStart phase s)

/-! ### The filter (R162) -/

/-- The length of the VLAN tag of a frame, 0 or 4, after R60. -/
def tagLength (bs : List Byte) : Nat :=
  if natAt bs 12 2 = 0x8100 ∨ natAt bs 12 2 = 0x88A8 then 4 else 0

/-- Test 1 of R162: the CRC matches, the length is 64 to 9,216 bytes with the frame check sequence, no code error. -/
def frameSound (bytes : List Byte) (codeError : Bool) : Bool :=
  !codeError && decide (64 ≤ bytes.length) && decide (bytes.length ≤ 9216) &&
    decide (bytes.drop (bytes.length - 4) = fcsBytes (crc32 (bytes.take (bytes.length - 4))))

/-- What the filter makes of a frame: the first test it fails, or a pass. -/
inductive FilterResult where
  | damaged
  | notAddressed
  | otherProtocol
  | malformed
  | otherCage
  | ownEcho
  | passed
deriving DecidableEq, Repr

/-- The cage number is not the one in force; not applied while no image is in force. -/
def State.wrongCage (s : State) (bs : List Byte) : Bool :=
  match s.loader.config with
  | some c => decide (natAt bs (16 + tagLength bs) 2 ≠ c.cageNumber)
  | none => false

/-- The six tests of R162 in their order. -/
def State.filter (s : State) (bytes : List Byte) (codeError : Bool) : FilterResult :=
  let bs := bytes.take (bytes.length - 4)
  let t := tagLength bs
  if !frameSound bytes codeError then .damaged
  else if natAt bs 0 6 ≠ s.group.toNat ∧ natAt bs 0 6 ≠ s.loader.identity.toNat then .notAddressed
  else if natAt bs (12 + t) 2 ≠ s.typeCode then .otherProtocol
  else if bs.length < 26 + t then .malformed
  else if s.wrongCage bs then .otherCage
  else if natAt bs (18 + t) 6 = s.loader.identity.toNat then .ownEcho
  else .passed

/-- The counters after a frame that fails a test (R162). -/
def PortCounts.countFilter (k : PortCounts) (r : FilterResult) : PortCounts :=
  match r with
  | .damaged => { k with rxDamaged := bump k.rxDamaged }
  | .notAddressed => { k with rxNotAddressed := bump k.rxNotAddressed }
  | .otherProtocol => { k with rxOtherProtocol := bump k.rxOtherProtocol }
  | .malformed => { k with rxMalformed := bump k.rxMalformed }
  | .otherCage => { k with rxOtherCage := bump k.rxOtherCage }
  | .ownEcho => { k with ownEchoes := bump k.ownEchoes }
  | .passed => k

/-- A frame that passed is appended, or dropped at a full queue (R163). -/
def State.queueFrame (s : State) (f : RxFrame) : State :=
  if s.port.rxQueue.length < Config.rxLimit then
    { s with port := { s.port with rxQueue := s.port.rxQueue ++ [f],
                                   counts := { s.port.counts with rxAccepted := bump s.port.counts.rxAccepted } } }
  else
    { s with port := { s.port with counts := { s.port.counts with rxOverruns := bump s.port.counts.rxOverruns } },
             req := s.req.raise .segmentRxOverrun }

/-- SEGMENT_FRAME_RECEIVED (R162, R163): the end of the frame being received. -/
def segmentFrameReceived (bytes : List Byte) (codeError : Bool) (s : State) : State :=
  match s.port.rx with
  | none => s
  | some r =>
    let t := { s with port := { s.port with rx := none } }
    match s.filter bytes codeError with
    | .passed => t.queueFrame { bytes := bytes.take (bytes.length - 4), date := r.date, stale := r.stale }
    | .damaged => { t with port := { t.port with counts := t.port.counts.countFilter .damaged } }
    | .notAddressed => { t with port := { t.port with counts := t.port.counts.countFilter .notAddressed } }
    | .otherProtocol => { t with port := { t.port with counts := t.port.counts.countFilter .otherProtocol } }
    | .malformed => { t with port := { t.port with counts := t.port.counts.countFilter .malformed } }
    | .otherCage => { t with port := { t.port with counts := t.port.counts.countFilter .otherCage } }
    | .ownEcho => { t with port := { t.port with counts := t.port.counts.countFilter .ownEcho } }

/-- SEGMENT_FRAME_RECEIVED. -/
def execSegmentFrameReceived (bytes : List Byte) (codeError : Bool) (s : State) : Host.Outcome State Fault Refusal :=
  .next (segmentFrameReceived bytes codeError s)

/-! ### Reading a queued frame (section 12.2) -/

/-- The frame kind. -/
def frameKind (bs : List Byte) : Nat := natAt bs (14 + tagLength bs) 1

/-- The sender's station number. -/
def frameStation (bs : List Byte) : Nat := natAt bs (15 + tagLength bs) 1

/-- The sender's identity. -/
def frameIdentity (bs : List Byte) : Identity := BitVec.ofNat 48 (natAt bs (18 + tagLength bs) 6)

/-- The content, where the content length stays within the frame (section 12.2). -/
def frameContent (bs : List Byte) : Option (List Byte) :=
  let t := tagLength bs
  let n := natAt bs (24 + t) 2
  if bs.length < 26 + t + n then none else some (slice bs (26 + t) n)

/-- The echo entries of a beacon's content (section 12.3). -/
def readEchoes (c : List Byte) (n : Nat) : List EchoEntry :=
  (List.range n).map (fun k =>
    { station := natAt c (24 + 24 * k) 1, t1 := timeAt c (26 + 24 * k), t2 := timeAt c (36 + 24 * k) })

/-- A beacon read from its content; none where it is receive malformed (section 12.3). -/
def readBeacon (bs c : List Byte) : Option Beacon :=
  let n := natAt c 3 1
  if c.length < 24 ∨ 15 < n ∨ c.length < 24 + 24 * n then none
  else
    some { station := frameStation bs, identity := frameIdentity bs, state := natAt c 0 1, agreement := natAt c 1 1,
           anchor := natAt c 2 1, spread := natAt c 8 4, number := natAt c 4 4, departure := timeAt c 12,
           echoes := readEchoes c n }

/-- The walk of R197 over what is left of a content: at most `n` records. -/
def walkRecords : Nat → List Byte → List (List Byte)
  | 0, _ => []
  | n + 1, bs =>
    let len := natAt bs 2 2
    if bs.length < 4 ∨ len < 32 ∨ len % 8 ≠ 0 ∨ bs.length < len then []
    else bs.take len :: walkRecords n (bs.drop len)

/-- The records of a publication frame's content that can be read (R165, R197). -/
def readRecords (c : List Byte) : List (List Byte) := walkRecords (natAt c 5 1) (c.drop 16)

/-- The bytes of arguments a request code takes (section 12.5). -/
def argumentBytes (code : Nat) : Nat :=
  match code with
  | 2 => 2
  | 5 => 8
  | 6 => 14
  | 8 => 4
  | 9 => 4
  | _ => 0

/-- A request read from its content, with its target; none where it is receive malformed (R165, section 12.5). -/
def readRequest (c : List Byte) : Option (Nat × Request) :=
  let code := natAt c 1 1
  if c.length < 12 ∨ c.length < 12 + argumentBytes code then none
  else some (natAt c 0 1, { code := code, requester := natAt c 2 6, tag := natAt c 8 4, args := slice c 12 (argumentBytes code) })

/-! ### The frame number check (R166) -/

/-- An entry whose peer's publication frame numbered `n` is dispatched. -/
def Peer.checkNumber (p : Peer) (n : Nat) : Peer :=
  let k := { p.counts with pubFrames := bump p.counts.pubFrames }
  { p with
    lastPubFrame := some n,
    counts := match p.lastPubFrame with
      | none => k
      | some last =>
        let d := forwardDistance last n
        if d = 0 ∨ 2147483648 < d then { k with numberFalls := bump k.numberFalls }
        else { k with missedFrames := bumpBy (d - 1) k.missedFrames } }

/-- Whether an entry is of a station number and identity. -/
def Peer.isOf (p : Peer) (station : Nat) (identity : Identity) : Bool :=
  decide (p.station = station) && decide (p.identity = identity)

/-- The frame number check of R166. -/
def State.checkNumber (s : State) (station : Nat) (identity : Identity) (n : Nat) : State :=
  if s.agr.peers.any (fun p => p.isOf station identity) then
    let peers := s.agr.peers.map (fun p => if p.isOf station identity then p.checkNumber n else p)
    { s with agr := { s.agr with peers := peers } }
  else { s with port := { s.port with counts := { s.port.counts with untracked := bump s.port.counts.untracked } } }

/-! ### Requests (R169, R173) -/

/-- The number of the code RESTART. -/
def restartCode : Nat := 10

/-- A RESTART at its arrival (R173). -/
def State.restartArrives (s : State) (q : Request) (straps : Fin 16) : State :=
  if s.loader.state = .loading then
    { s with req := ({ s.req with counts := { s.req.counts with
        wrongState := bump s.req.counts.wrongState } } : ReqHandler).respond (q.answer .wrongState []) }
  else (s.flushRequests.respond (q.answer .ok [])).restart straps.val

/-- A request other than RESTART at its arrival (R169). -/
def ReqHandler.arrive (r : ReqHandler) (q : Request) : ReqHandler :=
  if r.queue.length < Config.requestLimit then { r with queue := r.queue ++ [q] }
  else ({ r with counts := { r.counts with busy := bump r.counts.busy } } : ReqHandler).respond (q.answer .busy [])

/-- A request that reaches the Request Handler (R169). -/
def State.requestArrives (s : State) (q : Request) (straps : Fin 16) : State :=
  let t := { s with req := { s.req with counts := { s.req.counts with received := bump s.req.counts.received } } }
  if q.code = restartCode then t.restartArrives q straps else { t with req := t.req.arrive q }

/-! ### Dispatch (R164, R165) -/

/-- What the head of the receive queue is. -/
inductive Dispatched where
  | malformed
  | beacon (b : Beacon)
  | publication (station : Nat) (identity : Identity) (number : Nat) (records : List (List Byte))
  | request (target : Nat) (q : Request)
  | foreignReply
  | unknownKind
deriving DecidableEq, Repr

/-- A frame read by its kind (R165). -/
def readFrame (bs : List Byte) : Dispatched :=
  match frameContent bs with
  | none => .malformed
  | some c =>
    match frameKind bs with
    | 1 => match readBeacon bs c with
      | some b => .beacon b
      | none => .malformed
    | 2 =>
      if c.length < 16 then .malformed
      else .publication (frameStation bs) (frameIdentity bs) (natAt c 0 4) (readRecords c)
    | 3 => match readRequest c with
      | some (target, q) => .request target q
      | none => .malformed
    | 4 => .foreignReply
    | 5 => .foreignReply
    | _ => .unknownKind

/-- The port's counters with `f` applied. -/
def State.countPort (s : State) (f : PortCounts → PortCounts) : State :=
  { s with port := { s.port with counts := f s.port.counts } }

/-- A publication frame handed to the Sequence Arbiter (R102, R165); one with no record to take leaves nothing to do, unless
its station number is one that R102 counts. -/
def State.handFrame (s : State) (station : Nat) (records : List (List Byte)) : State :=
  if records = [] ∧ station ≠ s.loader.station ∧ station ≤ 15 then s
  else { s with arbiter := { s.arbiter with frame := some { station := station, records := records } } }

/-- The head of the receive queue `f`, read as `d`, sent to its destination (R165). -/
def State.deliver (s : State) (f : RxFrame) (d : Dispatched) (straps : Fin 16) : State :=
  match d with
  | .malformed => s.countPort (fun k => { k with rxMalformed := bump k.rxMalformed })
  | .beacon b =>
    { s with agr := { s.agr with
        inbox := some { beacon := b, arrival := f.date, tick := s.clock.tick, stale := f.stale } } }
  | .publication station identity number records =>
    (s.checkNumber station identity number).handFrame station records
  | .request target q =>
    if target = s.loader.station ∨ target = 255 then s.requestArrives q straps
    else s.countPort (fun k => { k with otherRequests := bump k.otherRequests })
  | .foreignReply => s.countPort (fun k => { k with foreignReplies := bump k.foreignReplies })
  | .unknownKind => s.countPort (fun k => { k with unknownKind := bump k.unknownKind })

/-- Whether the block that deals with the kind of the head `bs` is ready (R164): the Agreement Unit has taken the beacon before,
and, for a frame of kind PUBLICATION, the Sequence Arbiter has taken the last record of the frame before. A head of that kind
holds the queue whether or not it will be found malformed. -/
def State.dispatchReady (s : State) (bs : List Byte) : Bool :=
  s.agr.inbox.isNone && (decide (frameKind bs ≠ FrameKind.publication.code) || s.arbiter.frame.isNone)

/-- DISPATCH (R164, R165): the head of the receive queue leaves for its destination. -/
def dispatch (straps : Fin 16) (s : State) : State :=
  match s.port.rxQueue with
  | [] => s
  | f :: rest =>
    if s.dispatchReady f.bytes then
      ({ s with port := { s.port with rxQueue := rest } } : State).deliver f (readFrame f.bytes) straps
    else s

/-- DISPATCH. -/
def execDispatch (straps : Fin 16) (s : State) : Host.Outcome State Fault Refusal := .next (dispatch straps s)

end Sys2Proof.Machine
end

