-- ==== Sys2Proof/Machine/Reports.lean ====
section
/-! DEFINITION. The reports of STATUS, FEED_REPORT and PEER_REPORT (R175, R176, R101) as the report items of section 12.5 and
R199. -/

namespace Sys2Proof.Machine

/-! ### Items -/

/-- A report item: its code's two bytes, the value's length, the value, and zeros to a multiple of 4 (section 12.5). -/
def item (high low : Nat) (value : List Byte) : List Byte :=
  toBE 1 high ++ toBE 1 low ++ toBE 2 value.length ++ padTo 4 value

/-- Items whose low bytes count on from `low`. -/
def itemsFrom (high : Nat) : Nat → List (List Byte) → List Byte
  | _, [] => []
  | low, v :: vs => item high low v ++ itemsFrom high (low + 1) vs

/-- A counter, in the four bytes of section 12.5; and a count, depth, low mark, tag or number that section 12.5 gives no type, in four
bytes too (DEDUCED, log 25). -/
def counterValue (n : Nat) : List Byte := toBESat 4 n

/-- A local tick or a sequence (section 12.5). -/
def wideValue (n : Nat) : List Byte := toBESat 8 n

/-- A value held by one of several like instances: it begins with the instance's number or place (section 12.5). -/
def placed (place : Nat) (value : List Byte) : List Byte := toBE 1 place ++ value

/-- The list with each member's place in it, counted from 1 as section 12.5 counts places (DEDUCED, log 26). -/
def withPlaces {α : Type} (xs : List α) : List (Nat × α) := xs.zipIdx.map (fun x => (x.2 + 1, x.1))

/-! ### The station report (R175) -/

/-- The Loader's part. The clamped-field count is absent in LOADING. -/
def loaderItems (s : State) : List Byte :=
  itemsFrom 1 1
    [toBE 1 s.loader.state.code, toBE 1 s.loader.station, toBE 6 s.loader.identity.toNat, s.loader.imageStatus.codes,
     if s.loader.state = .loading then [] else counterValue s.loader.clamped, counterValue s.loader.restarts]

/-- The Station Clock's part. -/
def clockItems (k : Clock) : List Byte :=
  itemsFrom 2 1
    [wideValue k.tick, timeBytes k.reading, signed8 k.freq, signed8 k.slew, signed8 k.rate, toBE 1 k.anchor.state.code,
     counterValue k.anchor.pulses, counterValue k.anchor.bad, counterValue k.anchor.failed]

/-- The Agreement Unit's part. -/
def agreementItems (a : Agreement) : List Byte :=
  itemsFrom 3 1
    [toBE 1 a.agreement.code, wideValue a.spread, signed8 a.correction, counterValue a.roundCount,
     counterValue a.beaconsSent, counterValue a.skipped, counterValue a.refused, counterValue a.conflicts]

/-- A Line Receiver's part: its state and the counters of R12. -/
def lineItems (n : Nat) (l : LineRx) : List Byte :=
  itemsFrom 4 1
    ([toBE 1 l.state.code, counterValue l.frames, counterValue l.fcsErrors, counterValue l.cut, counterValue l.preService,
      counterValue l.unmatched, counterValue l.truncated].map (placed n))

/-- The Sequence Arbiter's part: the counters of R121. It holds them in every station state, so they are reported in LOADING too:
R175's "no feed counters" is read of the counters of feed map entries, which no station report holds (DEDUCED, log 41). -/
def arbiterItems (a : Arbiter) : List Byte :=
  itemsFrom 5 1
    [counterValue a.misnumbered, counterValue a.outOfService, counterValue a.refused, counterValue a.passedOver]

/-- The Page Pool's part (R134). The free count, the held counts and the low mark are no counters, and section 12.5 gives them no
width: they take four bytes, as the three counters do (DEDUCED, log 25). -/
def poolItems (p : Pool) : List Byte :=
  item 6 1 (counterValue p.free) ++
    p.held.toList.zipIdx.flatMap (fun x => item 6 2 (placed x.2 (counterValue x.1))) ++
    itemsFrom 6 3 [counterValue p.low, counterValue p.poolRefusals, counterValue p.quotaRefusals, counterValue p.storeFaults]

/-- The armed mark as one item: its target and tag, or absent (R199). That the tag takes four bytes here, as it does in a request and
a record, is DEDUCED (log 25). -/
def markValue : Option ArmedMark → List Byte
  | some m => timeBytes m.target ++ counterValue m.tag
  | none => []

/-- The Publisher's part (R156). -/
def publisherItems (p : Publisher) : List Byte :=
  itemsFrom 7 1
    [toBE 1 p.state.code, counterValue p.depth, toBE 1 p.asmState.code, counterValue p.asm.length,
     flagByte p.ready.isSome, counterValue p.drop, counterValue p.frameNumber, markValue p.mark,
     counterValue p.counts.queued, counterValue p.counts.shed, counterValue p.counts.stripped,
     counterValue p.counts.dropped, counterValue p.counts.summaries, counterValue p.counts.framesClosed,
     counterValue p.counts.framesSent, counterValue p.counts.framesAbandoned, counterValue p.counts.marksFired,
     counterValue p.counts.marksLate]

/-- The Segment Port's part (R167). -/
def portItems (p : Port) : List Byte :=
  let k := p.counts
  itemsFrom 8 1
    [toBE 1 p.link.code, counterValue p.rxQueue.length, counterValue k.linkLosses, counterValue k.rxCut,
     counterValue k.rxDamaged, counterValue k.rxNotAddressed, counterValue k.rxOtherProtocol, counterValue k.rxMalformed,
     counterValue k.rxOtherCage, counterValue k.ownEchoes, counterValue k.rxAccepted, counterValue k.rxOverruns,
     counterValue k.otherRequests, counterValue k.foreignReplies, counterValue k.unknownKind, counterValue k.untracked]

/-- The Request Handler's part (R175, R185). -/
def requestItems (r : ReqHandler) : List Byte :=
  itemsFrom 9 1
    [setBytes r.set, setBytes r.enabled, flagByte r.gateOpen, flagByte r.alertPending, counterValue r.alertNumber,
     flagByte r.latch, counterValue r.queue.length, counterValue r.responses.length, counterValue r.counts.received,
     counterValue r.counts.busy, counterValue r.counts.wrongState, counterValue r.counts.badArgument,
     counterValue r.counts.flushed, counterValue r.counts.unanswered, counterValue r.counts.alertsSent]

/-- The part a block supplies of the station report, as its state stands (R175); the Feed Classifier supplies none. -/
def State.reportPart (s : State) (b : Block) : List Byte :=
  match b with
  | .loader => loaderItems s
  | .clock => clockItems s.clock
  | .agreement => agreementItems s.agr
  | .line i => lineItems i.val (s.lines.get i)
  | .classifier => []
  | .arbiter => arbiterItems s.arbiter
  | .pool => poolItems s.pool
  | .publisher => publisherItems s.pub
  | .port => portItems s.port
  | .requests => requestItems s.req

/-- The eight Line Receivers. -/
def lineBlocks : List Block := (List.finRange 8).map Block.line

/-- The blocks that supply a part of the station report. R175 gives the parts no order among themselves, and section 12.5 no order of
the items in the response: they stand in the order of R175's rows, a block's items together and in the order of their places, each
line's seven items together (DESIGN CHOICE, log 44). -/
def statusBlocks : List Block :=
  [.loader, .clock, .agreement] ++ lineBlocks ++ [.arbiter, .pool, .publisher, .port, .requests]

/-- The items of the part a block has supplied. -/
def partItems (parts : List Part) (b : Block) : List Byte :=
  match parts.find? (fun p => decide (p.block = b)) with
  | some p => p.items
  | none => []

/-- The station report made of the parts that have come back, in the order of `statusBlocks` (DESIGN CHOICE, log 44). -/
def stationReport (parts : List Part) : List Byte := statusBlocks.flatMap (partItems parts)

/-! ### The feed report (R101, R176) -/

/-- A gap item's value. -/
def gapValue (g : Gap) : List Byte := wideValue g.first ++ wideValue g.last ++ wideValue g.opened ++ wideValue g.deadline

/-- The winner fields of a log entry item: zeros on LOST. -/
def winnerBytes : Option Winner → List Byte
  | some w => toBE 1 w.station ++ toBE 1 w.line ++ timeBytes w.date
  | none => zeros 12

/-- A log entry item's value. -/
def entryValue (x : LogEntry) : List Byte :=
  wideValue x.first ++ wideValue x.last ++ toBE 1 x.kind.code ++ winnerBytes x.winner

/-- The counters of R99, in the order of its table. -/
def LocalCounts.values (k : LocalCounts) : List Nat :=
  [k.first, k.fill, k.partialFill, k.late, k.reset, k.takeover, k.duplicate, k.keepalive, k.stale, k.wild, k.expired,
   k.evicted, k.resetGaps]

/-- The counters of R120, in the order of its table. -/
def PeerClaimCounts.values (k : PeerClaimCounts) : List Nat :=
  [k.claims, k.entered, k.resets, k.wild, k.unrecorded, k.notEarlier, k.yieldsMade, k.replaced, k.yieldsApplied,
   k.yieldsIgnored, k.nonClaims, k.lost]

/-- The feed report: the state, the high mark, the gaps, the 16 newest log entries, newest first, and the 28 counters. A log
entry's place counts in this list of the report, 1 for the newest, and not in the range log (DEDUCED, log 43). That the items stand
by their codes is the model's (DESIGN CHOICE, log 44). -/
def feedReport (f : FeedSlot) : List Byte :=
  item 1 1 (toBE 1 f.table.state.code) ++
    item 1 2 (match f.table.high with | some h => toBE 9 h | none => []) ++
    (withPlaces f.table.gaps).flatMap (fun x => item 1 3 (placed x.1 (gapValue x.2))) ++
    (withPlaces (f.table.log.reverse.take 16)).flatMap (fun x => item 1 4 (placed x.1 (entryValue x.2))) ++
    itemsFrom 2 1 ((f.table.counts.values ++ f.table.peer.values ++ [f.damaged, f.stray, f.malformed]).map counterValue)

/-! ### The peer report (R176) -/

/-- The echo pair's value: t1 then t2, or nothing (R199). -/
def echoValue : Option EchoPair → List Byte
  | some e => timeBytes e.t1 ++ timeBytes e.t2
  | none => []

/-- The last publication frame number's value, or nothing (R199). -/
def lastFrameValue : Option Nat → List Byte
  | some n => counterValue n
  | none => []

/-- The fields of a peer entry, in the order of R199. -/
def Peer.fieldValues (p : Peer) : List (List Byte) :=
  [toBE 1 p.station, toBE 6 p.identity.toNat, toBE 1 p.state.code, toBE 1 p.repState, toBE 1 p.repAgreement,
   toBE 1 p.repAnchor, wideValue p.repSpread, wideValue p.lastBeaconTick, counterValue p.lastBeaconNumber,
   echoValue p.echo, wideValue p.deadline, lastFrameValue p.lastPubFrame]

/-- A sample's value: θ, δ and the tick (R199). -/
def Sample.value (x : Sample) : List Byte := signed8 x.offset ++ wideValue x.delay.toNat ++ wideValue x.tick

/-- The counters of a peer entry, in the order of section 3.5 and R166. -/
def PeerCounts.values (k : PeerCounts) : List Nat :=
  [k.heard, k.missed, k.accepted, k.staleEchoes, k.unknownEchoes, k.delayLow, k.delayHigh, k.identityChanges, k.pubFrames,
   k.missedFrames, k.numberFalls]

/-- The items of the entry at a place of the peer table, by their codes (DESIGN CHOICE, log 44). -/
def Peer.items (p : Peer) (place : Nat) : List Byte :=
  itemsFrom 1 1 (p.fieldValues.map (placed place)) ++
    (withPlaces p.ring).flatMap (fun x => item 2 1 (placed place (placed x.1 x.2.value))) ++
    itemsFrom 3 1 (p.counts.values.map (fun n => placed place (counterValue n)))

/-- The peer report: every entry in table order. -/
def peerReport (peers : List Peer) : List Byte := (withPlaces peers).flatMap (fun x => x.2.items x.1)

end Sys2Proof.Machine
end

