-- ==== Sys2Proof/Machine/Requests.lean ====
section
/-! DEFINITION. The requests carried out at the head of the request queue (R170 to R180, R184). Each command acts when the
head carries its code; the tests stand in the order of R170. -/

namespace Sys2Proof.Machine

/-! ### Carrying out a request -/

/-- Whether a station state permits a request code (R171); RESTART is tested at its arrival. -/
def permitted (state : StationState) (code : Nat) : Bool :=
  match state with
  | .serving => true
  | .listen => decide (code ≠ 6) && decide (code ≠ 7)
  | .acquire => decide (code ≠ 6) && decide (code ≠ 7)
  | .loading => decide (code = 1)
  | .halted => decide (code = 1)
  | .conflict => decide (code = 1)

/-- The head request is answered and leaves (R170). -/
def State.finish (s : State) (res : Result) (data : List Byte) : State := { s with req := s.req.finish res data }

/-- The head request of code `code` is tested for the station state (test 2 of R170) and, where permitted, carried out. -/
def State.carryOut (s : State) (code : Nat) (act : Request → State) : State :=
  match s.req.queue with
  | [] => s
  | q :: _ =>
    if q.code = code then (if permitted s.loader.state code then act q else s.finish .wrongState []) else s

/-! ### Requests carried out block by block (R175, R177) -/

/-- Whether a block has taken its part of the request at the head. -/
def ReqHandler.took (r : ReqHandler) (b : Block) : Bool := r.parts.any (fun p => decide (p.block = b))

/-- A block takes its part of the request at the head. -/
def State.addPart (s : State) (b : Block) (items : List Byte) : State :=
  { s with req := { s.req with parts := s.req.parts ++ [{ block := b, items := items }] } }

/-- A request that several blocks carry out, each at an event of its own and once: `take` is what a block among `blocks` does at
its event, and `data` what the response carries, formed when every part has come back. The forming is an event of its own, so that
a flush can fall between the last part and the response (R174; DESIGN CHOICE, log 23). -/
def State.byBlocks (s : State) (blocks : List Block) (part : Option Block) (take : Block → State) (data : List Byte) : State :=
  match part with
  | some b => if b ∈ blocks ∧ s.req.took b = false then take b else s
  | none => if blocks.all s.req.took then s.finish .ok data else s

/-! ### Reports -/

/-- STATUS (R175). -/
def status (part : Option Block) (s : State) : State :=
  s.carryOut 1 (fun _ => s.byBlocks statusBlocks part (fun b => s.addPart b (s.reportPart b)) (stationReport s.req.parts))

/-- STATUS. -/
def execStatus (s : State) (part : Option Block := none) : Host.Outcome State Fault Refusal := .next (status part s)

/-- FEED_REPORT (R176): a number above 255, and one that is not mapped, are refused. -/
def feedReportRequest (s : State) : State :=
  s.carryOut 2 (fun q =>
    if 255 < natAt q.args 0 2 then s.finish .badArgument []
    else
      match findFeed s.feeds (natAt q.args 0 2) with
      | some f => s.finish .ok (feedReport f)
      | none => s.finish .badArgument [])

/-- FEED_REPORT. -/
def execFeedReport (s : State) : Host.Outcome State Fault Refusal := .next (feedReportRequest s)

/-- PEER_REPORT (R176). -/
def peerReportRequest (s : State) : State := s.carryOut 3 (fun _ => s.finish .ok (peerReport s.agr.peers))

/-- PEER_REPORT. -/
def execPeerReport (s : State) : Host.Outcome State Fault Refusal := .next (peerReportRequest s)

/-! ### CLEAR_COUNTS (R177) -/

/-- The six counters of a line zeroed (R12). -/
def LineRx.clearCounts (l : LineRx) : LineRx :=
  { l with frames := 0, fcsErrors := 0, cut := 0, preService := 0, unmatched := 0, truncated := 0 }

/-- The Feed Classifier's counters of a feed map entry zeroed (R73). -/
def FeedSlot.clearOutcomes (f : FeedSlot) : FeedSlot := { f with damaged := 0, stray := 0, malformed := 0 }

/-- The counters of a table zeroed (R99, R120). -/
def FeedSlot.clearTable (f : FeedSlot) : FeedSlot := { f with table := { f.table with counts := {}, peer := {} } }

/-- The three counters of the pool zeroed, and the low mark set to the free list's count (R134). -/
def Pool.clearCounts (p : Pool) : Pool :=
  { p with poolRefusals := 0, quotaRefusals := 0, storeFaults := 0, low := p.free }

/-- The eight counters of a peer entry that are the Agreement Unit's zeroed (section 3.5, R55); the Segment Port's three stay. -/
def PeerCounts.clearBeacons (k : PeerCounts) : PeerCounts :=
  { pubFrames := k.pubFrames, missedFrames := k.missedFrames, numberFalls := k.numberFalls }

/-- The three counters of a peer entry that are the Segment Port's zeroed (R166, R167). -/
def PeerCounts.clearFrames (k : PeerCounts) : PeerCounts := { k with pubFrames := 0, missedFrames := 0, numberFalls := 0 }

/-- The counters of every peer entry rewritten. -/
def Agreement.mapCounts (a : Agreement) (f : PeerCounts → PeerCounts) : Agreement :=
  { a with peers := a.peers.map (fun p => { p with counts := f p.counts }) }

/-- The Agreement Unit's counters zeroed, its own and those of every peer entry (R55). -/
def Agreement.clearCounts (a : Agreement) : Agreement :=
  { a.mapCounts PeerCounts.clearBeacons with beaconsSent := 0, skipped := 0, refused := 0, conflicts := 0 }

/-- The anchor's counters zeroed (R33). -/
def Clock.clearCounts (k : Clock) : Clock := { k with anchor := { k.anchor with pulses := 0, bad := 0, failed := 0 } }

/-- A block zeroes its counters (R177). The Loader has none: the restart count is kept. -/
def State.clearCounts (s : State) (b : Block) : State :=
  match b with
  | .loader => s
  | .clock => { s with clock := s.clock.clearCounts }
  | .agreement => { s with agr := s.agr.clearCounts }
  | .line i => s.modifyLine i LineRx.clearCounts
  | .classifier => { s with feeds := s.feeds.map FeedSlot.clearOutcomes }
  | .arbiter => { s with arbiter := { frame := s.arbiter.frame }, feeds := s.feeds.map FeedSlot.clearTable }
  | .pool => { s with pool := s.pool.clearCounts }
  | .publisher => { s with pub := { s.pub with counts := {} } }
  | .port => { s with port := { s.port with counts := {} }, agr := s.agr.mapCounts PeerCounts.clearFrames }
  | .requests => { s with req := { s.req with counts := {} } }

/-- The blocks that zero counters at a CLEAR_COUNTS (R177). -/
def countingBlocks : List Block :=
  [.clock, .agreement] ++ lineBlocks ++ [.classifier, .arbiter, .pool, .publisher, .port, .requests]

/-- CLEAR_COUNTS (R177): each block zeroes at an event of its own, and the response is formed when every block has zeroed. -/
def clearCountsRequest (part : Option Block) (s : State) : State :=
  s.carryOut 4 (fun _ => s.byBlocks countingBlocks part (fun b => (s.clearCounts b).addPart b []) [])

/-- CLEAR_COUNTS. -/
def execClearCounts (s : State) (part : Option Block := none) : Host.Outcome State Fault Refusal := .next (clearCountsRequest part s)

/-! ### SET_SECONDS (R178) -/

/-- A seconds value handed to the Station Clock for its next boundary (R23, R178). -/
def State.handSeconds (s : State) (v : Nat) : State :=
  { s with clock := { s.clock with pendingSeconds := some { value := v } } }

/-- SET_SECONDS (R178): the request stays at the head until the boundary at which the Station Clock tests the value. -/
def setSecondsRequest (s : State) : State :=
  s.carryOut 5 (fun q =>
    if Config.secondsModulus ≤ natAt q.args 0 8 then s.finish .badArgument []
    else if s.req.latch then s.finish .alreadySet []
    else if s.clock.pendingSeconds.isSome then s
    else s.handSeconds (natAt q.args 0 8))

/-- SET_SECONDS. -/
def execSetSeconds (s : State) : Host.Outcome State Fault Refusal := .next (setSecondsRequest s)

/-! ### Marks (R151, R153, R179) -/

/-- The data of a MARK response (section 12.5): ARMED 1, FIRED_LATE 2. -/
def MarkTaken.data (k : MarkTaken) : List Byte := [if k.late then 2 else 1]

/-- The result of a MARK (R151). -/
def MarkTaken.result (k : MarkTaken) : Result := if k.replaced then .replaced else .ok

/-- MARK (R151, R179). -/
def markRequest (s : State) : State :=
  s.carryOut 6 (fun q =>
    if (timeAt q.args 0).valid then
      let k := s.pub.takeMark { target := timeAt q.args 0, tag := natAt q.args 10 4 } s.clock.reading
      State.finish { s with pub := k.pub } k.result k.data
    else s.finish .badArgument [])

/-- MARK. -/
def execMark (s : State) : Host.Outcome State Fault Refusal := .next (markRequest s)

/-- CANCEL_MARK (R153, R179). -/
def cancelMarkRequest (s : State) : State :=
  s.carryOut 7 (fun _ =>
    if s.pub.mark.isSome then State.finish { s with pub := { s.pub with mark := none } } .ok []
    else s.finish .noneArmed [])

/-- CANCEL_MARK. -/
def execCancelMark (s : State) : Host.Outcome State Fault Refusal := .next (cancelMarkRequest s)

/-! ### Alerts (R180, R184) -/

/-- A condition set read from a request's arguments; none where it names a condition that does not exist (R198). -/
def readSet (args : List Byte) : Option CondSet :=
  if natAt args 0 4 < 32768 then some (BitVec.ofNat 15 (natAt args 0 4)) else none

/-- SET_ALERT_ENABLES (R180). -/
def setAlertEnablesRequest (s : State) : State :=
  s.carryOut 8 (fun q =>
    match readSet q.args with
    | some e => State.finish { s with req := s.req.enable e } .ok (setBytes e)
    | none => s.finish .badArgument [])

/-- SET_ALERT_ENABLES. -/
def execSetAlertEnables (s : State) : Host.Outcome State Fault Refusal := .next (setAlertEnablesRequest s)

/-- ACK_ALERTS (R184). -/
def ackAlertsRequest (s : State) : State :=
  s.carryOut 9 (fun q =>
    match readSet q.args with
    | some e => State.finish { s with req := s.req.acknowledge e } .ok (setBytes (s.req.acknowledge e).set)
    | none => s.finish .badArgument [])

/-- ACK_ALERTS. -/
def execAckAlerts (s : State) : Host.Outcome State Fault Refusal := .next (ackAlertsRequest s)

/-! ### Unknown codes -/

/-- Whether a request code is one of the ten (section 12.5). -/
def knownCode (code : Nat) : Bool := decide (1 ≤ code) && decide (code ≤ 10)

/-- UNKNOWN_REQUEST (test 1 of R170). -/
def unknownRequest (s : State) : State :=
  match s.req.queue with
  | [] => s
  | q :: _ => if knownCode q.code then s else s.finish .badArgument []

/-- UNKNOWN_REQUEST. -/
def execUnknownRequest (s : State) : Host.Outcome State Fault Refusal := .next (unknownRequest s)

end Sys2Proof.Machine
end

