-- ==== Sys2Proof/Machine/Transmit.lean ====
section
/-! DEFINITION. The transmit side of the segment port: the arbiter's choice (R154), the contents of what it sends (R35, R150,
R183), the read-out of chains (R132, R133), the end of a frame, and the segment link (R158, R159). -/

namespace Sys2Proof.Machine

/-! ### Beacons -/

/-- The echo entry of a peer, where R35 gives it one: its last beacon taken no more than 32 B ticks ago, and an echo pair held. -/
def Peer.echoEntry (p : Peer) (now beaconTicks : Nat) : Option EchoEntry :=
  match p.echo with
  | some e => if now ≤ p.lastBeaconTick + 32 * beaconTicks then some { station := p.station, t1 := e.t1, t2 := e.t2 } else none
  | none => none

/-- The agreement state a beacon carries (R35). -/
def State.beaconAgreement (s : State) : AgreementState :=
  match s.loader.state with
  | .listen => .acquiring
  | .acquire => .acquiring
  | .loading => s.agr.agreement
  | .halted => s.agr.agreement
  | .serving => s.agr.agreement
  | .conflict => s.agr.agreement

/-- The beacon whose contents are taken now, departing at `date` (R35). -/
def State.beaconNow (s : State) (date : CageTime) : Beacon :=
  { station := s.loader.station, identity := s.loader.identity, state := s.loader.state.code,
    agreement := s.beaconAgreement.code, anchor := s.clock.anchor.state.code, spread := s.agr.spread,
    number := s.agr.beaconNumber, departure := date,
    echoes := s.agr.peers.filterMap (fun p => p.echoEntry s.clock.tick s.beaconTicks) }

/-- A departure date appended to the history, the oldest leaving a full one (R36). -/
def appendDeparture (ds : List CageTime) (d : CageTime) : List CageTime :=
  (if ds.length < Config.historyLimit then ds else ds.drop 1) ++ [d]

/-- A due beacon leaves (R34 to R36), its departure date formed at its first byte with trim 0 (R27). -/
def State.sendBeacon (s : State) (phase : Fin 16) : State :=
  let date := s.clock.date phase 0
  { s with
    port := { s.port with tx := some (s.buildFrame .beacon s.loader.station s.loader.identity (s.beaconNow date).encode) },
    agr := { s.agr with
      beaconDue := false,
      beaconNumber := (s.agr.beaconNumber + 1) % 4294967296,
      beaconsSent := bump s.agr.beaconsSent,
      departures := appendDeparture s.agr.departures date } }

/-! ### Alerts and responses -/

/-- A pending ALERT frame leaves, its contents taken now (R183). -/
def State.sendAlert (s : State) : State :=
  { s with
    port := { s.port with
      tx := some (s.buildFrame .alert s.loader.station s.loader.identity (alertContent s.loader.state s.req)) },
    req := { s.req with
      fresh := 0,
      alertNumber := (s.req.alertNumber + 1) % 4294967296,
      alertPending := false,
      counts := { s.req.counts with alertsSent := bump s.req.counts.alertsSent } } }

/-- The head of the response queue leaves (R154, R172). -/
def State.sendResponse (s : State) (p : Response) (rest : List Response) : State :=
  { s with
    port := { s.port with tx := some (s.buildFrame .response s.loader.station s.loader.identity p.encode) },
    req := { s.req with responses := rest } }

/-! ### Read-out -/

/-- The held bytes of a record's chain (R132), as they stand in its pages. -/
def Record.heldCells (r : Record) : List Cell :=
  match r.chain with
  | some c => c.pages.flatten.take c.heldLength
  | none => []

/-- Whether a held byte of the `k`-th record fails its parity check (R133): the upsets are the bytes that read wrong. -/
def faulty (upsets : List Upset) (k : Nat) (cells : List Cell) : Bool :=
  cells.zipIdx.any (fun x => !x.1.sound ^^ decide ({ record := k, byte := x.2 } ∈ upsets))

/-- A record placed in the frame without payload, its payload-fault flag set (R133). -/
def Record.markFaulty : Record → Record
  | .arrival a => .arrival { a with payloadFault := true }
  | .yielded f a b w l d => .yielded f a b w l d
  | .lost f a b c r => .lost f a b c r
  | .summary f c => .summary f c
  | .mark t a b l => .mark t a b l

/-- The bytes of the `k`-th record as it is placed in the frame (R132, R133). -/
def Record.readOut (r : Record) (upsets : List Upset) (k : Nat) : List Byte :=
  if faulty upsets k r.heldCells then r.markFaulty.encode [] else r.encode (r.heldCells.map Cell.byte)

/-- How many records of a frame fail the parity check (R133). -/
def faultCount (upsets : List Upset) (rs : List Record) : Nat :=
  (rs.zipIdx.filter (fun x => faulty upsets x.2 x.1.heldCells)).length

/-- The content of a publication frame, its records read out in order (R132). -/
def ReadyFrame.content (f : ReadyFrame) (upsets : List Upset) : List Byte :=
  f.head ++ f.records.zipIdx.flatMap (fun x => x.1.readOut upsets x.2)

/-- A COMPLETE frame closes into the slot that has emptied (R148, R150). -/
def State.refillSlot (s : State) : State := if s.pub.asmState = .complete then s.closeFrame else s

/-- The ready frame leaves (R132, R133, R150): its chains are read and released, the slot empties. -/
def State.sendPublication (s : State) (f : ReadyFrame) (upsets : List Upset) : State :=
  let pool := s.pool.releaseAll (f.records.map Record.chain)
  let n := faultCount upsets f.records
  ({ s with
    port := { s.port with tx := some (s.buildFrame .publication f.station f.identity (f.content upsets)) },
    pool := { pool with storeFaults := bumpBy n pool.storeFaults },
    pub := { s.pub with ready := none },
    req := s.req.raiseIf (decide (0 < n)) .storeFault } : State).refillSlot

/-! ### The arbiter -/

/-- TRANSMIT_CHOICE (R154, R155): with the link UP and no frame being placed on the wire, the first available of a due
beacon, a pending ALERT frame, the head of the response queue and the ready frame. -/
def transmitChoice (phase : Fin 16) (upsets : List Upset) (s : State) : State :=
  if s.port.link = .up ∧ s.port.tx = none then
    if s.agr.beaconDue then s.sendBeacon phase
    else if s.req.alertPending then s.sendAlert
    else
      match s.req.responses, s.pub.ready with
      | p :: rest, _ => s.sendResponse p rest
      | [], some f => s.sendPublication f upsets
      | [], none => s
  else s

/-- TRANSMIT_CHOICE. -/
def execTransmitChoice (phase : Fin 16) (upsets : List Upset) (s : State) : Host.Outcome State Fault Refusal :=
  .next (transmitChoice phase upsets s)

/-- SEGMENT_TX_END (R150, R154): the last byte of the frame being sent has left. -/
def segmentTxEnd (s : State) : State := s.endTx .whole

/-- SEGMENT_TX_END. -/
def execSegmentTxEnd (s : State) : Host.Outcome State Fault Refusal := .next (segmentTxEnd s)

/-! ### The segment link -/

/-- SEGMENT_LINK_UP (R158). -/
def segmentLinkUp (s : State) : State := { s with port := { s.port with link := .up } }

/-- SEGMENT_LINK_UP. -/
def execSegmentLinkUp (s : State) : Host.Outcome State Fault Refusal := .next (segmentLinkUp s)

/-- A waiting due beacon is skipped when the link goes DOWN (R34). -/
def Agreement.skipDue (a : Agreement) : Agreement :=
  if a.beaconDue then { a with beaconDue := false, skipped := bump a.skipped } else a

/-- The receive side at a link loss (R158, R159): a frame being received is cut. -/
def Port.lose (p : Port) : Port :=
  { p with
    link := .down, rx := none,
    counts := { p.counts with linkLosses := bump p.counts.linkLosses,
                              rxCut := if p.rx.isSome then bump p.counts.rxCut else p.counts.rxCut } }

/-- SEGMENT_LINK_LOSS (R34, R158, R159), of a link that is UP: the frame being sent ends, the one being received is cut. -/
def segmentLinkLoss (s : State) : State :=
  if s.port.link = .up then
    let t := s.endTx .cut
    { t with port := t.port.lose, agr := t.agr.skipDue }
  else s

/-- SEGMENT_LINK_LOSS. -/
def execSegmentLinkLoss (s : State) : Host.Outcome State Fault Refusal := .next (segmentLinkLoss s)

end Sys2Proof.Machine
end

