-- ==== Sys2Proof/Machine/Dispatch.lean ====
section
/-! DEFINITION. One arm for each command: its meaning. -/

namespace Sys2Proof.Machine

def exec (i : Instr) (s : State) : Host.Outcome State Fault Refusal :=
  match i with
  | .powerOn straps => Sys2Proof.Machine.execPowerOn straps s
  | .linkUp line => Sys2Proof.Machine.execLinkUp line s
  | .linkLoss line => Sys2Proof.Machine.execLinkLoss line s
  | .settleTimerExpiry line => Sys2Proof.Machine.execSettleTimerExpiry line s
  | .silenceTimerExpiry line => Sys2Proof.Machine.execSilenceTimerExpiry line s
  | .startDelimiter line phase => Sys2Proof.Machine.execStartDelimiter line phase s
  | .frameByte line byte codeError => Sys2Proof.Machine.execFrameByte line byte codeError s
  | .frameEnd line => Sys2Proof.Machine.execFrameEnd line s
  | .classifyHandOff line => Sys2Proof.Machine.execClassifyHandOff line s
  | .localArrival line => Sys2Proof.Machine.execLocalArrival line s
  | .gapExpiry index => Sys2Proof.Machine.execGapExpiry index s
  | .peerRecord => Sys2Proof.Machine.execPeerRecord s
  | .pulse ago phase => Sys2Proof.Machine.execPulse ago phase s
  | .pulseWindowExpiry => Sys2Proof.Machine.execPulseWindowExpiry s
  | .clockStep => Sys2Proof.Machine.execClockStep s
  | .secondsWrite => Sys2Proof.Machine.execSecondsWrite s
  | .beaconTimerExpiry => Sys2Proof.Machine.execBeaconTimerExpiry s
  | .beaconTaken => Sys2Proof.Machine.execBeaconTaken s
  | .silenceDeadline station => Sys2Proof.Machine.execSilenceDeadline station s
  | .roundEnd => Sys2Proof.Machine.execRoundEnd s
  | .recordTaken maker => Sys2Proof.Machine.execRecordTaken maker s
  | .recordEntersFrame => Sys2Proof.Machine.execRecordEntersFrame s
  | .batchTimerExpiry => Sys2Proof.Machine.execBatchTimerExpiry s
  | .markFire => Sys2Proof.Machine.execMarkFire s
  | .transmitChoice phase upsets => Sys2Proof.Machine.execTransmitChoice phase upsets s
  | .segmentTxEnd => Sys2Proof.Machine.execSegmentTxEnd s
  | .segmentLinkUp => Sys2Proof.Machine.execSegmentLinkUp s
  | .segmentLinkLoss => Sys2Proof.Machine.execSegmentLinkLoss s
  | .segmentFrameReceived bytes codeError => Sys2Proof.Machine.execSegmentFrameReceived bytes codeError s
  | .dispatch straps => Sys2Proof.Machine.execDispatch straps s
  | .status part => Sys2Proof.Machine.execStatus s part
  | .feedReport => Sys2Proof.Machine.execFeedReport s
  | .peerReport => Sys2Proof.Machine.execPeerReport s
  | .clearCounts part => Sys2Proof.Machine.execClearCounts s part
  | .setSeconds => Sys2Proof.Machine.execSetSeconds s
  | .mark => Sys2Proof.Machine.execMark s
  | .cancelMark => Sys2Proof.Machine.execCancelMark s
  | .setAlertEnables => Sys2Proof.Machine.execSetAlertEnables s
  | .ackAlerts => Sys2Proof.Machine.execAckAlerts s
  | .unknownRequest => Sys2Proof.Machine.execUnknownRequest s
  | .imageReadDone flash => Sys2Proof.Machine.execImageReadDone flash s
  | .localTick => Sys2Proof.Machine.execLocalTick s
  | .segmentStartDelimiter phase => Sys2Proof.Machine.execSegmentStartDelimiter phase s

end Sys2Proof.Machine
end

