-- ==== Sys2Proof/Safety.lean ====
section
/-! DEFINITION. What a sound state of the station is: the limits, ranges and correspondences that the manual states of the state
between two events, and that every step is claimed to keep. -/

namespace Sys2Proof.Machine

/-! ### Limits of queues, rings and lists -/

/-- Most entries of a feed map (R188). -/
def feedLimit : Nat := 32

/-- Every queue, ring and list within the size the manual gives it (R137, R147, R163, R169, R172, R36, section 3.5, R188). -/
def State.WithinLimits (s : State) : Prop :=
  s.pub.queue.length ≤ Config.queueLimit ∧ s.pub.asm.length ≤ Config.frameRecords ∧
    s.port.rxQueue.length ≤ Config.rxLimit ∧ s.req.queue.length ≤ Config.requestLimit ∧
    s.req.responses.length ≤ Config.responseLimit ∧ s.agr.departures.length ≤ Config.historyLimit ∧
    (∀ p ∈ s.agr.peers, p.ring.length ≤ Config.ringLimit) ∧ s.feeds.length ≤ feedLimit

/-! ### The Page Pool -/

/-- The chains that stand in the state: of frames in flight, hand-offs, arrivals and records. -/
def State.chains (s : State) : List Chain :=
  (s.lines.toList.map LineRx.chain ++ s.handOffs.map HandOff.chain ++ s.arrivals.map Arrival.chain ++
    s.pub.records.map Record.chain).reduceOption

/-- The pages that the chains of a line hold. -/
def pagesOf (cs : List Chain) (i : Line) : Nat :=
  ((cs.filter (fun c => decide (c.line = i))).map (fun c => c.pages.length)).sum

/-- A frame record with a chain is a live frame with its service mark (R124, R11), and the chain's pages are those its stored
bytes need (R123). -/
def LineRx.chainMarked (l : LineRx) : Prop :=
  match l.frame with
  | some f => ∀ c, f.chain = some c → f.cls = .live ∧ f.mark = true ∧ c.pages.length = pagesFor c.stored
  | none => True

/-- Each page is on the free list or in one chain, and each line's held count is the pages of its chains (R123); no line is
above its quota, and the low mark is not above the free count (R125, R134). -/
def State.PoolSound (s : State) : Prop :=
  s.pool.free + s.pool.held.toList.sum = Config.poolPages ∧
    (∀ i : Line, s.pool.held.get i = pagesOf s.chains i) ∧
    (∀ i : Line, s.pool.held.get i ≤ Config.lineQuota) ∧
    s.pool.low ≤ s.pool.free ∧ (∀ i : Line, (s.lines.get i).chainMarked)

/-! ### The clock -/

/-- The Station Clock's values in their ranges (R16, R17, R20, R19, R178). -/
def Clock.InRange (c : Clock) : Prop :=
  c.tick < 18446744073709551616 ∧ c.acc.sec < Config.secondsModulus ∧ c.acc.units < Config.unitsPerSec ∧
    -200000 ≤ c.freq ∧ c.freq ≤ 200000 ∧ -200000 ≤ c.slew ∧ c.slew ≤ 200000 ∧
    -250000 ≤ c.rate ∧ c.rate ≤ 250000 ∧ c.adj = rateAdjust c.rate ∧
    c.pendingSeconds.all (fun p => decide (p.value < Config.secondsModulus)) = true

/-! ### Service -/

/-- Whether an image status belongs to a station state (R186, R188, R190, R192, R193). -/
def ImageStatus.fits (i : ImageStatus) (s : StationState) : Prop :=
  match i with
  | .loading => s = .loading
  | .rejected _ => s = .halted
  | .accepted => s = .listen ∨ s = .acquire ∨ s = .serving ∨ s = .conflict

/-- What the station state fixes: the image in force and its status, and the timers of beacons and rounds, which run in
LISTEN, ACQUIRE and SERVING (R34, R39, R47, R56, R58, R186, R192); a wait for the ACQUIRE step is of ACQUIRE (R53). -/
def State.StateSound (s : State) : Prop :=
  s.loader.imageStatus.fits s.loader.state ∧
    s.loader.config.isSome = s.loader.state.hasImage ∧
    (s.loader.state.hasImage = false → s.feeds = []) ∧
    s.agr.beaconTimer.isSome = s.loader.state.beacons ∧
    s.agr.roundTimer.isSome = s.loader.state.beacons ∧
    (s.loader.state.beacons = false → s.agr.beaconDue = false ∧ s.agr.peers = []) ∧
    (s.agr.servingAfterStep.isSome = true → s.loader.state = .acquire)

/-- A line with no marked frame in flight. -/
def LineRx.unmarked (l : LineRx) : Prop :=
  match l.frame with
  | some f => f.cls = .live → f.mark = false
  | none => True

/-- Outside SERVING the station holds nothing of service: no hand-off, no arrival, no record queued, framed or handed over, no
armed mark, no marked frame in flight (R9, R11, R72, R100, R141, R157). -/
def State.ServiceSound (s : State) : Prop :=
  (s.loader.state ≠ .serving →
    s.handOffs = [] ∧ s.arrivals = [] ∧ s.pub.queue = [] ∧ s.pub.asm = [] ∧ s.pub.ready = none ∧ s.pub.mark = none ∧
      s.pub.state = .normal ∧ s.pub.drop = 0 ∧ s.pub.fromClassifier = [] ∧ s.pub.fromArbiter = [] ∧ s.pub.fromMarks = [] ∧
      (∀ f ∈ s.feeds, f.table = {} ∧ f.shed = {}) ∧
      (∀ i : Line, (s.lines.get i).unmarked)) ∧
    (s.pub.asmState = .empty ↔ s.pub.asm = []) ∧
    (s.pub.batchTimer.isSome = true ↔ s.pub.asmState = .filling) ∧
    (s.pub.asmState = .complete → s.pub.ready ≠ none)

/-! ### Lines -/

/-- The timers and the frame of a line in a state (section 1.2): the settle timer only in SETTLING, the silence timer in LIVE
alone and always there, no frame in DOWN. -/
def LineRx.Sound (l : LineRx) : Prop :=
  (l.settleTimer.isSome = true → l.state = .settling) ∧ (l.silenceTimer.isSome = true ↔ l.state = .live) ∧
    (l.state = .down → l.frame = none)

/-- Every line so. -/
def State.LinesSound (s : State) : Prop := ∀ i : Line, (s.lines.get i).Sound

/-! ### Alerts -/

/-- The alert gate is never open while a condition is both set and enabled (R182), and the new set lies within the conditions
set (R181). -/
def ReqHandler.GateSound (r : ReqHandler) : Prop :=
  (r.gateOpen = true → r.set &&& r.enabled = 0) ∧ r.fresh &&& ~~~ r.set = 0

/-! ### Requests carried out block by block -/

/-- The parts taken are parts of the request at the head, a STATUS or a CLEAR_COUNTS, each of a block that takes part in it and
each of another block (R174, R175, R177). -/
def ReqHandler.PartsSound (r : ReqHandler) : Prop :=
  r.parts = [] ∨
    ∃ q rest, r.queue = q :: rest ∧ (r.parts.map Part.block).Nodup ∧
      ((q.code = 1 ∧ ∀ p ∈ r.parts, p.block ∈ statusBlocks) ∨ (q.code = 4 ∧ ∀ p ∈ r.parts, p.block ∈ countingBlocks))

/-! ### Tables -/

/-- A gap list in order below a high mark: each gap a range, each wholly below the next, all below H (R76). -/
def gapsSound (gaps : List Gap) (h : Nat) : Prop :=
  gaps.Pairwise (fun a b => a.last < b.first) ∧ ∀ g ∈ gaps, g.first ≤ g.last ∧ g.last < h

/-- A range log below a high mark: each entry a range, with a winner unless it is LOST (section 5.1). -/
def logSound (log : List LogEntry) (h : Nat) : Prop :=
  ∀ x ∈ log, x.first ≤ x.last ∧ x.last < h ∧ (x.kind = .lost ↔ x.winner = none)

/-- An arbitration table (R75 to R78): UNSYNCED with nothing in it, or in order below H, its gap list and range log within
their sizes. -/
def Table.Sound (t : Table) : Prop :=
  match t.high with
  | none => t.gaps = [] ∧ t.log = []
  | some h => gapsSound t.gaps h ∧ logSound t.log h ∧ t.gaps.length ≤ Config.gapLimit ∧ t.log.length ≤ Config.logLimit

/-- No sequence lies in two range log entries, nor in both a gap and an entry (R77). -/
def Table.Apart (t : Table) : Prop :=
  t.log.Pairwise (fun x y => x.last < y.first ∨ y.last < x.first) ∧
    ∀ g ∈ t.gaps, ∀ x ∈ t.log, g.last < x.first ∨ x.last < g.first

/-- Every table so. -/
def State.TablesSound (s : State) : Prop := ∀ f ∈ s.feeds, f.table.Sound ∧ f.table.Apart

/-! ### Peers -/

/-- The peer table holds at most one entry for each number 0 to 15 but the station's own (R37, section 3.5). -/
def State.PeersSound (s : State) : Prop :=
  (s.agr.peers.map Peer.station).Nodup ∧ ∀ p ∈ s.agr.peers, p.station ≤ 15 ∧ p.station ≠ s.loader.station

end Sys2Proof.Machine
end

