-- ==== Sys2Proof/Certificates/Slice0/Obligations.lean ====
section
/-! DEFINITION. The statements for the provers. Each is about every state unless it names an invariant of Safety.lean. -/

open Sys2Proof Sys2Proof.Machine

/-! ### The step -/

/-- The host's interface: a step carries out the command at the front of the queue on the state with the queue's rest; an
empty queue idles, which is the model's choice (log 5). -/
def Obligations.StepRunsFrontCommand : Prop :=
  (∀ (c : Instr) (cs : List Instr) (s : State), s.pending = c :: cs → step s = exec c { s with pending := cs }) ∧
    ∀ s : State, s.pending = [] → step s = .next s

/-- 95: each step of the table is whole, and none stops the station; a command leaves the queue of waiting commands alone
(the queue is the interface's, not the manual's). -/
def Obligations.CommandsCompleteAndLeaveTheQueue : Prop :=
  ∀ (c : Instr) (s : State), ∃ t, exec c s = .next t ∧ t.pending = s.pending

/-! ### Feed lines -/

/-- R1, R2: link up and link loss on a feed line, whole states. -/
def Obligations.LineLinkEvents : Prop :=
  (∀ (i : Line) (s : State), (s.lines.get i).state = .down →
    exec (.linkUp i) s = .next { s with lines := s.lines.set i { s.lines.get i with
      state := .settling, settleErrors := 0,
      settleTimer := if s.loader.state = .loading ∨ s.loader.state = .halted then none
        else some (s.clock.tick + (s.lineCfg i).settleMs * 250000) } }) ∧
    ∀ (i : Line) (s : State), (s.lines.get i).state ≠ .down →
      exec (.linkLoss i) s = .next { s with
        lines := s.lines.set i { s.lines.get i with
          state := .down, settleTimer := none, silenceTimer := none, frame := none,
          cut := if (s.lines.get i).frame = none then (s.lines.get i).cut else bump (s.lines.get i).cut },
        pool := s.pool.releaseOpt ((s.lines.get i).frame.bind FrameRec.chain),
        req := s.req.raise .lineDown }

/-- R3, R4, R14, R16: the configuration of a line; the expiry of a settle timer and of a silence timer at its deadline. That an
expiry before the deadline changes nothing is the model's (log 2), and so is that one taken late acts as one at the deadline (log
1). -/
def Obligations.LineTimersDecide : Prop :=
  (∀ (i : Line) (s : State), (∀ c, s.loader.config = some c → s.lineCfg i = c.lines.get i) ∧
    (s.loader.config = none → s.lineCfg i = { trim := 0, settleMs := 100, settleLimit := 0, silenceMs := 1000 })) ∧
  (∀ (i : Line) (s : State) (d : Nat), (s.lines.get i).settleTimer = some d →
    (s.clock.tick < d → exec (.settleTimerExpiry i) s = .next s) ∧
    (d ≤ s.clock.tick → (s.lines.get i).settleErrors ≤ (s.lineCfg i).settleLimit →
      exec (.settleTimerExpiry i) s = .next { s with lines := s.lines.set i { s.lines.get i with
        state := .live, settleTimer := none,
        silenceTimer := some (s.clock.tick + (s.lineCfg i).silenceMs * 250000) } }) ∧
    (d ≤ s.clock.tick → (s.lineCfg i).settleLimit < (s.lines.get i).settleErrors →
      exec (.settleTimerExpiry i) s = .next { s with
        lines := s.lines.set i { s.lines.get i with state := .faulted, settleTimer := none },
        req := s.req.raise .lineFaulted })) ∧
    ∀ (i : Line) (s : State) (d : Nat), (s.lines.get i).silenceTimer = some d →
      (s.clock.tick < d → exec (.silenceTimerExpiry i) s = .next s) ∧
      (d ≤ s.clock.tick → exec (.silenceTimerExpiry i) s = .next { s with
        lines := s.lines.set i { s.lines.get i with state := .silent, silenceTimer := none },
        req := s.req.raise .lineSilent })

/-- R6, R59, R124: the carriage of a line is the largest mode of the feeds whose A or B line it is, NONE where there is none; and
the frame record a start delimiter opens, by the line state and the station state; nothing else changes. -/
def Obligations.StartDelimiterOpensFrame : Prop :=
  (∀ (feeds : List FeedSlot) (i : Line),
    let mapped := fun (f : FeedSlot) => f ∈ feeds ∧ (f.cfg.aLine = i ∨ f.cfg.bLine = some i)
    (lineCarriage feeds i = .full ↔ ∃ f, mapped f ∧ f.cfg.carriage = .full) ∧
    (lineCarriage feeds i = .header ↔
      (∃ f, mapped f ∧ f.cfg.carriage = .header) ∧ ∀ f, mapped f → f.cfg.carriage ≠ .full) ∧
    (lineCarriage feeds i = .none ↔ ∀ f, mapped f → f.cfg.carriage = .none)) ∧
  ∀ (i : Line) (p : Fin 16) (s : State), (s.lines.get i).state ≠ .down → (s.lines.get i).frame = none →
    let heard := (s.lines.get i).state = .live ∨ (s.lines.get i).state = .silent
    let marked := heard ∧ s.loader.state = .serving
    ∃ f : FrameRec,
      exec (.startDelimiter i p) s = .next { s with lines := s.lines.set i { s.lines.get i with frame := some f } } ∧
      (f.cls = .live ↔ heard) ∧ (f.cls = .settling ↔ (s.lines.get i).state = .settling) ∧
      (f.cls = .faulted ↔ (s.lines.get i).state = .faulted) ∧
      (f.mark = true ↔ marked) ∧ f.date = s.clock.date p (s.lineCfg i).trim ∧
      f.window = [] ∧ f.count = 0 ∧ f.crc = BitVec.allOnes 32 ∧ f.tail = [] ∧ f.codeError = false ∧ f.truncated = false ∧
      (marked → lineCarriage s.feeds i ≠ .none → f.chain = some { line := i }) ∧
      (¬ marked ∨ lineCarriage s.feeds i = .none → f.chain = none)

/-- R7, R125: a byte of a frame in flight. The record counts it whatever the pool does; the pool stores it, takes a page for
it, passes it over, or refuses it by the first of the cases of R125, the capture limit being 64 bytes for HEADER and 1,536 for
FULL. What carriage a line has is StartDelimiterOpensFrame's. -/
def Obligations.FrameByteIsTaken : Prop :=
  ∀ (i : Line) (b : Byte) (e : Bool) (s : State) (f : FrameRec), (s.lines.get i).frame = some f →
    let g : FrameRec := { f with
      count := f.count + 1, crc := crcByte f.crc b,
      tail := (if f.tail.length < 4 then f.tail else f.tail.drop 1) ++ [{ before := f.crc, byte := b }],
      window := if f.window.length < 160 then f.window ++ [b] else f.window,
      codeError := f.codeError || e }
    let put := fun h : FrameRec => s.lines.set i { s.lines.get i with frame := some h }
    let limit := match lineCarriage s.feeds i with
      | .none => 0
      | .header => 64
      | .full => 1536
    (f.cls ≠ .live ∨ f.mark = false ∨ f.truncated = true ∨ 1536 ≤ f.count ∨ f.chain = none →
      exec (.frameByte i b e) s = .next { s with lines := put g }) ∧
    ∀ c, f.chain = some c → f.cls = .live → f.mark = true → f.truncated = false → f.count < 1536 →
      (limit ≤ c.stored → exec (.frameByte i b e) s = .next { s with lines := put g }) ∧
      (c.stored < limit → c.stored % 256 ≠ 0 →
        exec (.frameByte i b e) s = .next { s with lines := put { g with chain := some (c.append b) } }) ∧
      (c.stored < limit → c.stored % 256 = 0 → s.pool.free = 0 →
        exec (.frameByte i b e) s = .next { s with
          lines := put { g with truncated := true },
          pool := { s.pool with poolRefusals := bump s.pool.poolRefusals },
          req := s.req.raise .poolExhausted }) ∧
      (c.stored < limit → c.stored % 256 = 0 → s.pool.free ≠ 0 → s.pool.held.get c.line = 1024 →
        exec (.frameByte i b e) s = .next { s with
          lines := put { g with truncated := true },
          pool := { s.pool with quotaRefusals := bump s.pool.quotaRefusals },
          req := s.req.raise .poolExhausted }) ∧
      (c.stored < limit → c.stored % 256 = 0 → s.pool.free ≠ 0 → s.pool.held.get c.line ≠ 1024 →
        exec (.frameByte i b e) s = .next { s with
          lines := put { g with chain := some (c.append b) },
          pool := { s.pool with
            free := s.pool.free - 1, held := s.pool.held.set c.line (s.pool.held.get c.line + 1),
            low := min s.pool.low (s.pool.free - 1) } })

/-- R123, R129, R131: the bytes written into an empty chain stand in its pages in order, 256 to a page, each sound by its parity; a
chain released gives every page back to the free list and to its line's held count, and a trim those beyond the held length. -/
def Obligations.ChainHoldsItsBytes : Prop :=
  (∀ (p : Pool) (c : Chain) (mode : Carriage),
    let given := fun (n : Nat) => { p with free := p.free + n, held := p.held.set c.line (p.held.get c.line - n) }
    let held := match mode with
      | .none => 0
      | .header => min (c.captured.getD 0) 64
      | .full => c.captured.getD 0
    p.releaseOpt none = p ∧ p.releaseOpt (some c) = given c.pages.length ∧
      c.trim mode = { c with pages := c.pages.take ((held + 255) / 256), held := some held } ∧
      p.trim none mode = p ∧ p.trim (some c) mode = given (c.pages.length - (held + 255) / 256)) ∧
  ∀ (i : Line) (bs : List Byte),
    let c := bs.foldl Chain.append { line := i }
    c.line = i ∧ c.stored = bs.length ∧ c.pages.length = (bs.length + 255) / 256 ∧
      c.pages.flatten.map Cell.byte = bs ∧ (∀ x ∈ c.pages.flatten, x.sound = true) ∧
      (∀ p ∈ c.pages, p.length ≤ 256) ∧
      ∀ k, k < bs.length → ((c.pages[k / 256]?).bind (fun p => p[k % 256]?)).map Cell.byte = bs[k]?

/-- R8 to R10, R127: what the end of a frame does, by the frame's class and service mark. That a settling frame's failure counts
while the line is in SETTLING at the frame's end is the model's reading (log 37). The captured length is the smallest of the
stored length, the byte count less four and 1,532, and zero with no chain. -/
def Obligations.FrameEndDisposes : Prop :=
  ∀ (i : Line) (s : State) (f : FrameRec), (s.lines.get i).frame = some f →
    let l := s.lines.get i
    let failed := f.check ≠ none
    let taken := match f.chain with
      | none => 0
      | some c => min c.stored (min (f.count - 4) 1532)
    let m : LineRx := { l with
      frame := none, frames := bump l.frames, fcsErrors := if failed then bump l.fcsErrors else l.fcsErrors }
    let deadline := s.clock.tick + (s.lineCfg i).silenceMs * 250000
    let heard : LineRx :=
      if f.check = none ∧ (l.state = .live ∨ l.state = .silent) then { m with state := .live, silenceTimer := some deadline }
      else m
    (f.cls = .settling → exec (.frameEnd i) s = .next { s with
      lines := s.lines.set i { m with
        settleErrors := if failed ∧ l.state = .settling then l.settleErrors + 1 else l.settleErrors },
      pool := s.pool.releaseOpt f.chain }) ∧
    (f.cls = .faulted → exec (.frameEnd i) s = .next { s with
      lines := s.lines.set i m, pool := s.pool.releaseOpt f.chain }) ∧
    (f.cls = .live → f.mark = false → exec (.frameEnd i) s = .next { s with
      lines := s.lines.set i { heard with preService := bump l.preService }, pool := s.pool.releaseOpt f.chain }) ∧
    (f.cls = .live → f.mark = true → exec (.frameEnd i) s = .next { s with
      lines := s.lines.set i { heard with truncated := if f.truncated then bump l.truncated else l.truncated },
      handOffs := s.handOffs ++ [{
        line := i, date := f.date, length := min f.count 65535, cause := f.check, window := f.window,
        chain := f.chain.map (fun c => { c with captured := some taken, truncated := f.truncated }),
        captured := taken, truncated := f.truncated }] })

/-- R8: the frame check decided from the running record of a frame of any bytes is the check of the whole frame: the four
causes in their order; and the CRC is that of Ethernet, a bit at a time, preset to ones, complemented, sent low byte first. -/
def Obligations.FrameCheckReadsWholeFrame : Prop :=
  (∀ (c : BitVec 32) (b : Byte) (bs : List Byte),
    let shifted := fun (x : BitVec 32) => if x.getLsbD 0 = true then (x >>> 1) ^^^ 0xEDB88320#32 else x >>> 1
    crcByte c b = shifted^[8] (c ^^^ b.zeroExtend 32) ∧ crc32 bs = ~~~ (bs.foldl crcByte (BitVec.allOnes 32)) ∧
      fcsBytes c = [c.extractLsb' 0 8, c.extractLsb' 8 8, c.extractLsb' 16 8, c.extractLsb' 24 8]) ∧
  ∀ (cls : FrameClass) (date : CageTime) (xs : List (Byte × Bool)), 4 ≤ xs.length →
    let f := xs.foldl (fun (g : FrameRec) x => g.byte x.1 x.2) { cls := cls, date := date }
    let bs := xs.map Prod.fst
    f.check =
      if bs.drop (bs.length - 4) ≠ fcsBytes (crc32 (bs.take (bs.length - 4))) then some FailCause.fcs
      else if bs.length < 64 then some FailCause.short
      else if 1536 < bs.length then some FailCause.long
      else if xs.any Prod.snd then some FailCause.codeError
      else none

/-! ### The Feed Classifier -/

/-- R60 to R62: the parse of a header window. First the bytes: a frame with no VLAN tag or one, an IPv4 header of 20 to 60 bytes
with its options, neither fragment flag nor offset, and protocol 17, whatever its other bytes. Then each test that makes a frame
not IPv4/UDP, and that with none of them the address, the port, the UDP length and the payload's place are read. -/
def Obligations.FramesAreParsed : Prop :=
  (∀ (macs tag a ttl ck options ports ck2 rest : List Byte) (words flags dest port len : Nat),
    macs.length = 12 → (tag = [] ∨ ∃ x y, tag = [0x81, 0x00, x, y] ∨ tag = [0x88, 0xA8, x, y]) →
    5 ≤ words → words ≤ 15 → flags < 4 → a.length = 5 → ttl.length = 1 → ck.length = 6 → options.length = 4 * (words - 5) →
    ports.length = 2 → ck2.length = 2 → dest < 4294967296 → port < 65536 → len < 65536 →
    parseFrame (macs ++ tag ++ [0x08, 0x00] ++ [BitVec.ofNat 8 (64 + words)] ++ a ++ [BitVec.ofNat 8 (64 * flags), 0x00] ++ ttl ++
        [0x11] ++ ck ++ toBE 4 dest ++ options ++ ports ++ toBE 2 port ++ toBE 2 len ++ ck2 ++ rest)
      = some { dest := dest, port := port, payload := 22 + tag.length + 4 * words, udpLength := len }) ∧
  ∀ w : List Byte,
    let e := if natAt w 12 2 = 0x8100 ∨ natAt w 12 2 = 0x88A8 then 18 else 14
    let h := natAt w e 1 % 16 * 4
    (w.length < e ∨ natAt w (e - 2) 2 ≠ 0x0800 → parseFrame w = none) ∧
    (natAt w e 1 / 16 ≠ 4 ∨ h < 20 ∨ natAt w (e + 9) 1 ≠ 17 ∨ w.length < e + h → parseFrame w = none) ∧
    (natAt w (e + 6) 2 % 16384 ≠ 0 → parseFrame w = none) ∧
    (w.length < e + h + 8 → parseFrame w = none) ∧
    (natAt w (e - 2) 2 = 0x0800 → natAt w e 1 / 16 = 4 → 20 ≤ h → natAt w (e + 9) 1 = 17 → natAt w (e + 6) 2 % 16384 = 0 →
      e + h + 8 ≤ w.length → parseFrame w = some {
        dest := natAt w (e + 16) 4, port := natAt w (e + h + 2) 2, payload := e + h + 8, udpLength := natAt w (e + h + 4) 2 })

/-- R62 to R72: which outcome a hand-off has, by the first entry its address and port match, its frame check, its line, its payload
bounds, its fields and its range; and how the oldest hand-off of a line leaves by its outcome, whole states. -/
def Obligations.ClassifyHandOffByOutcome : Prop :=
  (∀ (feeds : List FeedSlot) (h : HandOff),
    (parseFrame h.window = none → classify feeds h = .unmatched) ∧
    ∀ p, parseFrame h.window = some p →
      let hit := fun (f : FeedSlot) => f.cfg.group = p.dest ∧ f.cfg.port = p.port
      ((∀ f ∈ feeds, ¬ hit f) → classify feeds h = .unmatched) ∧
      ∀ pre f post, feeds = pre ++ f :: post → hit f → (∀ x ∈ pre, ¬ hit x) →
        let mapped := f.cfg.aLine = h.line ∨ f.cfg.bLine = some h.line
        let l := p.udpLength - 8
        let bad := p.udpLength < 8 ∨ h.length < l + 4 + p.payload
        let fits := f.cfg.seqOffset + f.cfg.seqWidth ≤ l ∧ ∀ co, f.cfg.countOffset = some co → co + 2 ≤ l
        let read := fun (off n : Nat) =>
          let bs := slice h.window (p.payload + off) n
          fromBE (if f.cfg.order = .big then bs else bs.reverse)
        let first := read f.cfg.seqOffset f.cfg.seqWidth
        let count := match f.cfg.countOffset with | some co => read co 2 | none => 1
        let beyond := 1 ≤ count ∧ 18446744073709551615 < first + count - 1
        (∀ cause, h.cause = some cause → classify feeds h = .damaged f cause) ∧
        (h.cause = none → ¬ mapped →
          (bad ∨ ¬ fits ∨ beyond → classify feeds h = .stray f 0 0) ∧
          (¬ bad → fits → ¬ beyond → classify feeds h = .stray f first count)) ∧
        (h.cause = none → mapped →
          (bad → classify feeds h = .malformed f .badLength) ∧
          (¬ bad → ¬ fits → classify feeds h = .malformed f .shortPayload) ∧
          (¬ bad → fits → beyond → classify feeds h = .malformed f .rangeOverflow) ∧
          (¬ bad → fits → ¬ beyond → classify feeds h = .range pre.length f first count))) ∧
  ∀ (i : Line) (s : State) (h : HandOff), s.handOffs.find? (fun x => decide (x.line = i)) = some h →
    let rest := s.handOffs.eraseP (fun x => decide (x.line = i))
    let keep := fun (m : Carriage) => h.chain.map (fun c => c.trim m)
    let hand := fun (a : ArrivalRec) => { s.pub with fromClassifier := s.pub.fromClassifier ++ [Record.arrival a] }
    (classify s.feeds h = .unmatched → exec (.classifyHandOff i) s = .next { s with
      handOffs := rest, pool := s.pool.releaseOpt h.chain,
      lines := s.lines.set h.line { s.lines.get h.line with unmatched := bump (s.lines.get h.line).unmatched } }) ∧
    (∀ f cause, classify s.feeds h = .damaged f cause →
      let feeds := modifyFeed s.feeds f.cfg.feed (fun x => { x with damaged := bump x.damaged })
      (f.cfg.onLine h.line = true → exec (.classifyHandOff i) s = .next { s with
        handOffs := rest, feeds := feeds, pool := s.pool.trim h.chain f.cfg.carriage,
        pub := hand { verdict := .damaged, feed := some f.cfg.feed, line := h.line, first := 0, count := 0, date := h.date,
                      length := h.length, failCause := some cause, captured := h.captured, truncated := h.truncated,
                      chain := keep f.cfg.carriage } }) ∧
      (f.cfg.onLine h.line = false → exec (.classifyHandOff i) s = .next { s with
        handOffs := rest, feeds := feeds, pool := s.pool.releaseOpt h.chain,
        pub := hand { verdict := .damaged, feed := none, line := h.line, first := 0, count := 0, date := h.date,
                      length := h.length, failCause := some cause, captured := h.captured, truncated := h.truncated } })) ∧
    (∀ f first count, classify s.feeds h = .stray f first count → exec (.classifyHandOff i) s = .next { s with
      handOffs := rest, pool := s.pool.trim h.chain f.cfg.carriage,
      feeds := modifyFeed s.feeds f.cfg.feed (fun x => { x with stray := bump x.stray }),
      pub := hand { verdict := .stray, feed := some f.cfg.feed, line := h.line, first := first, count := count, date := h.date,
                    length := h.length, captured := h.captured, truncated := h.truncated, chain := keep f.cfg.carriage } }) ∧
    (∀ f cause, classify s.feeds h = .malformed f cause → exec (.classifyHandOff i) s = .next { s with
      handOffs := rest, pool := s.pool.trim h.chain f.cfg.carriage,
      feeds := modifyFeed s.feeds f.cfg.feed (fun x => { x with malformed := bump x.malformed }),
      pub := hand { verdict := .malformed, feed := some f.cfg.feed, line := h.line, first := 0, count := 0, date := h.date,
                    length := h.length, malformedCause := some cause, captured := h.captured, truncated := h.truncated,
                    chain := keep f.cfg.carriage } }) ∧
    (∀ k f first count, classify s.feeds h = .range k f first count → exec (.classifyHandOff i) s = .next { s with
      handOffs := rest,
      arrivals := s.arrivals ++ [{
        index := k, feed := f.cfg.feed, line := h.line, date := h.date, first := first, count := count, length := h.length,
        chain := h.chain, captured := h.captured, truncated := h.truncated }] })

/-! ### The arbitration tables -/

/-- R80, R97 to R99, R129: the oldest arrival of a line is judged against its feed's table, the verdict counted by the counter of
its name, and the LOST records and the ARRIVAL record handed to the Publisher in that order; nothing else changes. -/
def Obligations.LocalArrivalIsJudged : Prop :=
  ∀ (i : Line) (s : State) (a : Arrival) (f : FeedSlot),
    s.arrivals.find? (fun x => decide (x.line = i)) = some a → s.feeds[a.index]? = some f →
    let j := f.table.judge f.cfg a.first a.count { station := s.loader.station, line := a.line.val, date := a.date } s.clock.tick
    let losses := j.losses.map (fun l => Record.lost f.cfg.feed l.first (l.last + 1 - l.first) l.cause s.clock.reading)
    let k := j.table.counts
    let raised := fun (v : Verdict) (n : Nat) => if j.verdict = v then bump n else n
    let counted : LocalCounts := { k with
      first := raised .first k.first, fill := raised .fill k.fill, partialFill := raised .partialFill k.partialFill,
      late := raised .late k.late, reset := raised .reset k.reset, takeover := raised .takeover k.takeover,
      duplicate := raised .duplicate k.duplicate, keepalive := raised .keepalive k.keepalive, stale := raised .stale k.stale,
      wild := raised .wild k.wild }
    exec (.localArrival i) s = .next { s with
      arrivals := s.arrivals.eraseP (fun x => decide (x.line = i)),
      feeds := s.feeds.set a.index { f with table := { j.table with counts := counted } },
      pool := s.pool.trim a.chain f.cfg.carriage,
      pub := { s.pub with fromArbiter := s.pub.fromArbiter ++ losses ++ [Record.arrival {
          verdict := j.verdict, feed := some a.feed, line := a.line, first := a.first, count := a.count, date := a.date,
          length := a.length, lead := j.lead, displaced := j.displaced, captured := a.captured, truncated := a.truncated,
          chain := a.chain.map (fun c => c.trim f.cfg.carriage) }] } }

/-- R79, R81 to R84, R89 to R92, R94: the order of claims, by date, then station, then line; what a judgement
carries, a lead on DUPLICATE alone and a displaced winner on TAKEOVER alone (R97); and the cases of a judgement that do
not enter a range by R85: an UNSYNCED table, a KEEPALIVE, with the eviction it may make, WILD, RESET, and a range whose sequences
are all seen. -/
def Obligations.JudgementCases : Prop :=
  (∀ v w : Winner, v.notAfter w = true ↔
    v.date.before w.date = true ∨
      (v.date = w.date ∧ (v.station < w.station ∨ (v.station = w.station ∧ v.line ≤ w.line)))) ∧
  ∀ (t : Table) (cfg : FeedCfg) (n c : Nat) (w : Winner) (now : Nat),
    let e := n + c - 1
    let j := t.judge cfg n c w now
    let opened := fun (h : Nat) =>
      ({ first := h, last := n - 1, opened := now, deadline := now + cfg.gapHoldUs * 250 } : Gap)
    (j.verdict ≠ .duplicate → j.lead = none) ∧ (j.verdict ≠ .takeover → j.displaced = none) ∧
    (t.high = none → c = 0 → j.verdict = .keepalive ∧ j.table = { t with high := some n } ∧ j.losses = []) ∧
    (∀ h, t.high = some h → c = 0 → ¬ (h < n ∧ n ≤ h + cfg.jumpLimit) →
      j.verdict = .keepalive ∧ j.table = t ∧ j.losses = []) ∧
    (∀ h, t.high = some h → c = 0 → h < n → n ≤ h + cfg.jumpLimit → t.gaps.length < 8 →
      j.verdict = .keepalive ∧ j.losses = [] ∧ j.table = { t with high := some n, gaps := t.gaps ++ [opened h] }) ∧
    (∀ h g rest, t.high = some h → c = 0 → h < n → n ≤ h + cfg.jumpLimit → t.gaps = g :: rest → rest.length = 7 →
      j.verdict = .keepalive ∧ j.losses = [{ first := g.first, last := g.last, cause := .evicted }] ∧
      j.table = { t with
        high := some n, gaps := rest ++ [opened h],
        log := (t.log ++ [({ first := g.first, last := g.last, kind := .lost, winner := none } : LogEntry)]).drop
          (t.log.length - 63),
        counts := { t.counts with evicted := bump t.counts.evicted } }) ∧
    (t.high = none → 1 ≤ c → t.log = [] → j.verdict = .first ∧ j.losses = [] ∧
      j.table = { t with high := some (e + 1), log := [{ first := n, last := e, kind := .localClaim, winner := some w }] }) ∧
    (∀ h, t.high = some h → 1 ≤ c → h + cfg.jumpLimit < n → j.verdict = .wild ∧ j.table = t ∧ j.losses = []) ∧
    (∀ h, t.high = some h → 1 ≤ c → n ≤ h + cfg.jumpLimit → n + cfg.rewind < h →
      j.verdict = .reset ∧
      j.table = { t with
        high := some (e + 1), gaps := [], log := [{ first := n, last := e, kind := .localClaim, winner := some w }],
        counts := { t.counts with resetGaps := bumpBy t.gaps.length t.counts.resetGaps } } ∧
      j.losses = t.gaps.map (fun g => { first := g.first, last := g.last, cause := .byReset })) ∧
    (∀ h, t.high = some h → 1 ≤ c → n ≤ h + cfg.jumpLimit → h ≤ n + cfg.rewind → t.isLost n = false →
      t.seenParts n e ≠ [] → t.unseenRuns n e = [] → t.lostRuns n e = [] →
      ((∀ x ∈ t.log, n < x.first ∨ x.last < n) → j.verdict = .stale ∧ j.table = t ∧ j.losses = []) ∧
      ∀ pre x post v, t.log = pre ++ x :: post → (∀ y ∈ pre, n < y.first ∨ y.last < n) → x.first ≤ n → n ≤ x.last →
        x.winner = some v →
        (v.notAfter w = true → j.verdict = .duplicate ∧ j.table = t ∧ j.losses = [] ∧
          j.lead = some (min (w.date.quarters - v.date.quarters) 2147483647)) ∧
        (v.notAfter w = false → j.verdict = .takeover ∧ j.displaced = some v ∧ j.losses = [] ∧
          j.table = { t with log := pre ++ { x with kind := .localClaim, winner := some w } :: post }))

/-- R76 to R78, R80, R85 to R88, R92 to R94: how the classes of a range are told, and its runs of unseen and of lost sequences;
which verdicts enter a range; and what entering does to a sound table, the whole table after it: each unseen run becomes an entry
of the claim's kind and each lost run a LATE_CLAIM entry, both naming the claim's winner; what is left of a LOST entry stays LOST,
its lower part in place; every other entry stays; the new entries stand last, in ascending order, the oldest of more than 64
going; gaps shrink, split or close and keep their ticks, and the one opened below the range has the claim's tick and deadline. -/
def Obligations.RangesAreEntered : Prop :=
  (∀ (t : Table) (h a b : Nat), t.Sound → t.high = some h → a ≤ b →
    let gapped := fun (n : Nat) => ∃ g ∈ t.gaps, g.first ≤ n ∧ n ≤ g.last
    (t.seenParts a b = [] ↔ ∀ n, a ≤ n → n ≤ b → h ≤ n ∨ gapped n ∨ t.isLost n = true) ∧
    (t.unseenRuns a b = [] ↔ ∀ n, a ≤ n → n ≤ b → n < h ∧ ¬ gapped n) ∧
    (t.lostRuns a b = [] ↔ ∀ n, a ≤ n → n ≤ b → t.isLost n = false) ∧
    (∀ n, t.isLost n = true ↔ ∃ x ∈ t.log, x.kind = .lost ∧ x.first ≤ n ∧ n ≤ x.last) ∧
    let runs := fun (rs : List (Nat × Nat)) (of : Nat → Prop) =>
      rs.Pairwise (fun x y => x.2 + 1 < y.1) ∧ (∀ r ∈ rs, r.1 ≤ r.2) ∧
        ∀ n, (∃ r ∈ rs, r.1 ≤ n ∧ n ≤ r.2) ↔ a ≤ n ∧ n ≤ b ∧ of n
    runs (t.unseenRuns a b) (fun n => h ≤ n ∨ gapped n) ∧
      (t.Apart → runs (t.lostRuns a b) (fun n => t.isLost n = true))) ∧
  (∀ (t : Table) (cfg : FeedCfg) (n c : Nat) (w : Winner) (now : Nat), 1 ≤ c →
    let claim : Claim :=
      { first := n, last := n + c - 1, winner := w, kind := .localClaim, now := now, hold := cfg.gapHoldUs * 250 }
    let entered := fun (v : Verdict) => t.judge cfg n c w now =
      { verdict := v, table := (t.enter claim).1, losses := (t.enter claim).2, lead := none, displaced := none }
    ∀ h, t.high = some h → n ≤ h + cfg.jumpLimit → h ≤ n + cfg.rewind →
      (t.isLost n = true → entered .late) ∧
      (t.isLost n = false → t.seenParts n (n + c - 1) = [] → h ≤ n → entered .first) ∧
      (t.isLost n = false → t.seenParts n (n + c - 1) = [] → n < h → entered .fill) ∧
      (t.isLost n = false → t.seenParts n (n + c - 1) ≠ [] →
        t.unseenRuns n (n + c - 1) ≠ [] ∨ t.lostRuns n (n + c - 1) ≠ [] → entered .partialFill)) ∧
  ∀ (t : Table) (c : Claim) (h : Nat), t.Sound → t.high = some h → c.first ≤ c.last → c.kind ≠ .lost →
    let u := (t.enter c).1
    let losses := (t.enter c).2
    u.high = some (max h (c.last + 1)) ∧
    (∀ g ∈ u.gaps, g.last < c.first ∨ c.last < g.first) ∧
    (∀ n, n < c.first ∨ c.last < n →
      ((∃ g ∈ u.gaps, g.first ≤ n ∧ n ≤ g.last) ∨ (∃ l ∈ losses, l.first ≤ n ∧ n ≤ l.last) ↔
        (∃ g ∈ t.gaps, g.first ≤ n ∧ n ≤ g.last) ∨ (h ≤ n ∧ n < c.first))) ∧
    (t.gaps.length < 8 → losses = []) ∧ losses.length ≤ 1 ∧ (∀ l ∈ losses, l.cause = .evicted) ∧
    (∀ x ∈ u.log, x.kind = .lost → x.last < c.first ∨ c.last < x.first) ∧
    (∀ x ∈ u.log, x.kind ≠ .lost → x ∈ t.log ∨
      (x.winner = some c.winner ∧ c.first ≤ x.first ∧ x.last ≤ c.last ∧ (x.kind = c.kind ∨ x.kind = .lateClaim))) ∧
    (h ≤ c.first → u.log.getLast? = some { first := c.first, last := c.last, kind := c.kind, winner := some c.winner }) ∧
    let lost := fun (a b : Nat) => ({ first := a, last := b, kind := .lost, winner := none } : LogEntry)
    let claims := fun (k : EntryKind) (rs : List (Nat × Nat)) =>
      rs.map (fun r => ({ first := r.1, last := r.2, kind := k, winner := some c.winner } : LogEntry))
    let kept := t.log.filterMap (fun x =>
      if x.kind ≠ .lost ∨ x.last < c.first ∨ c.last < x.first then some x
      else if x.first < c.first then some { x with last := c.first - 1 }
      else if c.last < x.last then some { x with first := c.last + 1 }
      else none)
    let uppers := t.log.filterMap (fun x =>
      if x.kind = .lost ∧ x.first < c.first ∧ c.last < x.last then some (lost (c.last + 1) x.last) else none)
    let fresh := claims c.kind (t.unseenRuns c.first c.last) ++ claims .lateClaim (t.lostRuns c.first c.last) ++ uppers ++
      losses.map (fun l => lost l.first l.last)
    let cut := t.gaps.flatMap (fun g =>
      if g.last < c.first ∨ c.last < g.first then [g]
      else (if g.first < c.first then [{ g with last := c.first - 1 }] else []) ++
        (if c.last < g.last then [{ g with first := c.last + 1 }] else []))
    let opened := if h < c.first then
        cut ++ [({ first := h, last := c.first - 1, opened := c.now, deadline := c.now + c.hold } : Gap)]
      else cut
    (∃ news, news.Perm fresh ∧ news.Pairwise (fun x y => x.first ≤ y.first) ∧
      u.log = (kept ++ news).drop (kept.length + news.length - 64)) ∧
    (opened.length ≤ 8 → losses = [] ∧ u.gaps = opened ∧ u.counts = t.counts) ∧
    (∀ g rest, opened = g :: rest → 8 ≤ rest.length →
      losses = [{ first := g.first, last := g.last, cause := .evicted }] ∧ u.gaps = rest ∧
        u.counts = { t.counts with evicted := bump t.counts.evicted }) ∧
    u.peer = t.peer

/-- R95, R98: the gaps of the earliest deadline reached expire together. That nothing changes before the deadline is the model's
(log 2), and so is that of several deadlines reached only the earliest one's gaps go at one event (log 29). -/
def Obligations.GapExpiryLoses : Prop :=
  ∀ (i : Fin 32) (s : State) (f : FeedSlot) (d : Nat), s.feeds[i.val]? = some f →
    (∃ g ∈ f.table.gaps, g.deadline = d) → (∀ g ∈ f.table.gaps, d ≤ g.deadline) →
    let out := f.table.gaps.filter (fun g => decide (g.deadline = d))
    let entries := out.map (fun g => ({ first := g.first, last := g.last, kind := .lost, winner := none } : LogEntry))
    let lost := out.map (fun g => Record.lost f.cfg.feed g.first (g.last + 1 - g.first) .expired s.clock.reading)
    (s.clock.tick < d → exec (.gapExpiry i) s = .next s) ∧
    (d ≤ s.clock.tick → exec (.gapExpiry i) s = .next { s with
      feeds := s.feeds.set i.val { f with table := { f.table with
        gaps := f.table.gaps.filter (fun g => decide (g.deadline ≠ d)),
        log := (f.table.log ++ entries).drop (f.table.log.length + entries.length - 64),
        counts := { f.table.counts with expired := bumpBy out.length f.table.counts.expired } } },
      pub := { s.pub with fromArbiter := s.pub.fromArbiter ++ lost },
      req := s.req.raise .gapLost })

/-- R102 to R105, R115, R116, R197: the next record of the frame the arbiter holds: misnumbered, out of service, refused, passed
over, or taken at the table of the feed it names; which records are refused, kind by kind, and which name a feed. That the
station's number is the one in force when the record is taken is the model's reading (log 19); so is that only a claim's count is
tested (log 22), and that a misnumbered frame is counted so in every station state and none of its records out of service (log
45). -/
def Obligations.PeerRecordFates : Prop :=
  (∀ (s : State) (f : PeerFrame), s.arbiter.frame = some f → f.station = s.loader.station ∨ 15 < f.station →
    exec .peerRecord s = .next { s with
      arbiter := { s.arbiter with frame := none, misnumbered := bump s.arbiter.misnumbered } }) ∧
  ∀ (s : State) (q : Nat) (r : List Byte) (rest : List (List Byte)),
    s.arbiter.frame = some { station := q, records := r :: rest } → q ≠ s.loader.station → q ≤ 15 →
    let left := if rest = [] then none else some { station := q, records := rest : PeerFrame }
    let kind := natAt r 0 1
    let code := natAt r 1 1
    let length := natAt r 2 2
    let badDate := fun (off : Nat) => 4000000000 ≤ natAt r (off + 6) 4
    let badRange := natAt r 16 2 = 0 ∨ 18446744073709551615 < natAt r 8 8 + natAt r 16 2 - 1
    let refused :=
      kind = 0 ∨ 5 < kind ∨
      (kind = 1 ∧ (length ≠ 64 + (natAt r 22 2 + 7) / 8 * 8 ∨ code = 0 ∨ 13 < code ∨ 7 < natAt r 6 1 ∨ badDate 24 ∨
        (code ≤ 6 ∧ badRange))) ∨
      (kind = 2 ∧ (length ≠ 48 ∨ 15 < natAt r 5 1 ∨ natAt r 5 1 = q ∨ 7 < natAt r 6 1 ∨ 7 < natAt r 7 1 ∨ badDate 20 ∨
        badDate 30 ∨ badRange)) ∨
      (kind = 3 ∧ (length ≠ 32 ∨ badDate 20)) ∨
      (kind = 4 ∧ (length ≠ 48 ∨ badDate 24 ∨ badDate 34)) ∨
      (kind = 5 ∧ (length ≠ 32 ∨ badDate 8 ∨ badDate 18))
    let names := fun (n : Nat) => ((kind = 1 ∧ natAt r 5 1 % 2 = 0) ∨ kind = 2 ∨ kind = 3) ∧ natAt r 4 1 = n
    (s.loader.state ≠ .serving → exec .peerRecord s = .next { s with
      arbiter := { s.arbiter with frame := left, outOfService := bump s.arbiter.outOfService } }) ∧
    (s.loader.state = .serving → refused → exec .peerRecord s = .next { s with
      arbiter := { s.arbiter with frame := left, refused := bump s.arbiter.refused } }) ∧
    (s.loader.state = .serving → ¬ refused → (∀ g ∈ s.feeds, ¬ names g.cfg.feed) →
      exec .peerRecord s = .next { s with
        arbiter := { s.arbiter with frame := left, passedOver := bump s.arbiter.passedOver } }) ∧
    ∀ pre g post, s.loader.state = .serving → ¬ refused → s.feeds = pre ++ g :: post → names g.cfg.feed →
      (∀ x ∈ pre, x.cfg.feed ≠ g.cfg.feed) →
      let put := fun (t : Table) => s.feeds.map (fun x => if x.cfg.feed = g.cfg.feed then { x with table := t } else x)
      (kind = 1 → code ≤ 6 →
        let w : Winner := { station := q, line := natAt r 6 1, date := timeAt r 24 }
        let j := g.table.judgePeer g.cfg (natAt r 8 8) (natAt r 16 2) s.loader.station w s.clock.tick
        let losses := j.losses.map (fun l =>
          Record.lost g.cfg.feed l.first (l.last + 1 - l.first) l.cause s.clock.reading)
        let yielded := match j.yielded with
          | some y => [Record.yielded g.cfg.feed y.1.first (y.1.last + 1 - y.1.first) w y.2.line y.2.date]
          | none => []
        exec .peerRecord s = .next { s with
          arbiter := { s.arbiter with frame := left }, feeds := put j.table,
          pub := { s.pub with fromArbiter := s.pub.fromArbiter ++ (losses ++ yielded) } }) ∧
      (kind = 1 → 6 < code → exec .peerRecord s = .next { s with
        arbiter := { s.arbiter with frame := left },
        feeds := put { g.table with peer := { g.table.peer with nonClaims := bump g.table.peer.nonClaims } } }) ∧
      (kind = 2 → exec .peerRecord s = .next { s with
        arbiter := { s.arbiter with frame := left },
        feeds := put (g.table.applyYield (natAt r 8 8) q s.loader.station
          { station := natAt r 5 1, line := natAt r 6 1, date := timeAt r 20 }) }) ∧
      (kind = 3 → exec .peerRecord s = .next { s with
        arbiter := { s.arbiter with frame := left },
        feeds := put { g.table with peer := { g.table.peer with lost := bump g.table.peer.lost } } })

/-- R106 to R111, R113, R114: a peer claim by its cases: one that starts an UNSYNCED table and one that enters a range (as
RangesAreEntered says what entering does), a WILD one, a resetting one, and one whose sequences are all seen; and when a YIELD is
applied. The order of claims is JudgementCases'. -/
def Obligations.PeerClaimsAndYields : Prop :=
  (∀ (t : Table) (cfg : FeedCfg) (n c own : Nat) (w : Winner) (now : Nat), 1 ≤ c →
    let e := n + c - 1
    let j := t.judgePeer cfg n c own w now
    let k := { t.peer with claims := bump t.peer.claims }
    (t.high = none → t.log = [] → j.losses = [] ∧ j.yielded = none ∧
      j.table = { t with
        high := some (e + 1), log := [{ first := n, last := e, kind := .peerClaim, winner := some w }],
        peer := { k with entered := bump k.entered } }) ∧
    (∀ h, t.high = some h → h + cfg.jumpLimit < n →
      j.table = { t with peer := { k with wild := bump k.wild } } ∧ j.losses = [] ∧ j.yielded = none) ∧
    (∀ h, t.high = some h → n ≤ h + cfg.jumpLimit → n + cfg.rewind < h →
      j.yielded = none ∧
      j.table = { t with
        high := some (e + 1), gaps := [], log := [{ first := n, last := e, kind := .peerClaim, winner := some w }],
        counts := { t.counts with resetGaps := bumpBy t.gaps.length t.counts.resetGaps },
        peer := { k with resets := bump k.resets } } ∧
      j.losses = t.gaps.map (fun g => { first := g.first, last := g.last, cause := .byReset })) ∧
    (∀ h, t.high = some h → n ≤ h + cfg.jumpLimit → h ≤ n + cfg.rewind →
      t.isLost n = true ∨ t.seenParts n e = [] ∨ t.unseenRuns n e ≠ [] ∨ t.lostRuns n e ≠ [] →
      let r := t.enter { first := n, last := e, winner := w, kind := .peerClaim, now := now, hold := cfg.gapHoldUs * 250 }
      j.yielded = none ∧ j.losses = r.2 ∧ j.table = { r.1 with peer := { k with entered := bump k.entered } }) ∧
    ∀ h, t.high = some h → n ≤ h + cfg.jumpLimit → h ≤ n + cfg.rewind → t.isLost n = false →
      t.seenParts n e ≠ [] → t.unseenRuns n e = [] → t.lostRuns n e = [] →
      j.losses = [] ∧
      ((∀ x ∈ t.log, n < x.first ∨ x.last < n) →
        j.yielded = none ∧ j.table = { t with peer := { k with unrecorded := bump k.unrecorded } }) ∧
      ∀ pre x post v, t.log = pre ++ x :: post → (∀ y ∈ pre, n < y.first ∨ y.last < n) → x.first ≤ n → n ≤ x.last →
        x.winner = some v →
        let log := pre ++ { x with kind := .peerClaim, winner := some w } :: post
        (v.notAfter w = true → j.yielded = none ∧ j.table = { t with peer := { k with notEarlier := bump k.notEarlier } }) ∧
        (v.notAfter w = false → v.station = own →
          j.yielded = some (x, v) ∧ j.table = { t with log := log, peer := { k with yieldsMade := bump k.yieldsMade } }) ∧
        (v.notAfter w = false → v.station ≠ own →
          j.yielded = none ∧ j.table = { t with log := log, peer := { k with replaced := bump k.replaced } })) ∧
  ∀ (t : Table) (n q own : Nat) (w : Winner),
    let ignored := { t with peer := { t.peer with yieldsIgnored := bump t.peer.yieldsIgnored } }
    (t.high = none ∨ t.seenParts n n = [] ∨ (∀ x ∈ t.log, n < x.first ∨ x.last < n) → t.applyYield n q own w = ignored) ∧
    ∀ h pre x post v, t.high = some h → t.seenParts n n ≠ [] → t.log = pre ++ x :: post →
      (∀ y ∈ pre, n < y.first ∨ y.last < n) → x.first ≤ n → n ≤ x.last → x.winner = some v →
      (v.station ≠ q → t.applyYield n q own w = ignored) ∧
      (v.station = q → t.applyYield n q own w = { t with
        log := pre ++ { x with kind := if w.station = own then .localClaim else .peerClaim, winner := some w } :: post,
        peer := { t.peer with yieldsApplied := bump t.peer.yieldsApplied } })

/-! ### The Station Clock -/

/-- R16, R17, R19, R20: a local tick, the whole clock: the count, the accumulator with its carry, then r and A of the terms held,
a zeroed slew among them (log 39). That what was asked for the boundary is then due, and the two fields that remember the ticks
ended and the boundary, are the model's (log 6); so is the wrap of the tick count at 2^64, which no service reaches (log 17). -/
def Obligations.LocalTickAdvances : Prop :=
  ∀ s : State,
    let k := s.clock
    let incr := (17179869184 + k.adj).toNat
    let units := k.acc.units + incr
    let r := max (-250000) (min 250000 (k.freq + k.slew))
    exec .localTick s = .next { s with clock := { k with
      tick := (k.tick + 1) % 18446744073709551616,
      acc := if units < 4294967296000000000 then { sec := k.acc.sec, units := units }
        else { sec := (k.acc.sec + 1) % 281474976710656, units := units - 4294967296000000000 },
      rate := r,
      adj := r.sign * ((r.natAbs * 17179869184 * 2 + 1000000000) / 2000000000 : Nat),
      past := if k.anchor.state = .none then [] else { acc := k.acc, incr := incr, move := k.move } :: k.past,
      move := {},
      pendingStep := k.pendingStep.map (fun p => { p with due := true }),
      pendingSeconds := k.pendingSeconds.map (fun p => { p with due := true }) } }

/-- R22, R36, R40 step 5, R45, R51, R53: a step whose boundary has come, the whole state: the accumulator and the held pulse date
move by the correction, the pending anchor correction and every stored sample go, dates sampled before it are marked, and the
station that waited in ACQUIRE enters SERVING. That a step not asked for, or whose boundary has not come, changes nothing is the
model's (log 2); so are that the class and the SPREAD condition come here and not at the round end (log 30), and that a step asked
for in ACQUIRE is still applied after a RESTART or a conflict has taken the station out of it (log 10). -/
def Obligations.StepMovesCageTime : Prop :=
  (∀ s : State, s.clock.pendingStep = none ∨ (∃ c, s.clock.pendingStep = some { correction := c, due := false }) →
    exec .clockStep s = .next s) ∧
  ∀ (s : State) (c : Int), s.clock.pendingStep = some { correction := c, due := true } →
    let total : Int := (s.clock.acc.sec * 4294967296000000000 + s.clock.acc.units : Nat) + c * 1073741824
    let clock := { s.clock with
      acc := { sec := total.toNat / 4294967296000000000 % 281474976710656, units := total.toNat % 4294967296000000000 },
      move := { s.clock.move with step := some c }, pendingStep := none,
      anchor := { s.clock.anchor with
        latest := s.clock.anchor.latest.map (fun d => CageTime.ofQuarters (d.quarters + c)), correction := none } }
    let agr : Agreement := { s.agr with
      departures := [], inbox := s.agr.inbox.map (fun b => { b with stale := true }),
      peers := s.agr.peers.map (fun p => { p with
        ring := [], echo := none, state := if p.state = .paired then .heard else p.state }) }
    let port := { s.port with
      rx := s.port.rx.map (fun r => { r with stale := true }),
      rxQueue := s.port.rxQueue.map (fun r => { r with stale := true }) }
    (s.agr.servingAfterStep = none → exec .clockStep s = .next { s with clock := clock, agr := agr, port := port }) ∧
    ∀ cls, s.agr.servingAfterStep = some cls → exec .clockStep s = .next { s with
      clock := clock, port := port, agr := { agr with agreement := cls, servingAfterStep := none },
      loader := { s.loader with state := .serving },
      req := if cls = .spread then s.req.raise .spread else s.req }

/-- R23, R178, R40 step 5, R45: a handed seconds value whose boundary has come is accepted in LISTEN and ACQUIRE, and in SERVING
when ALONE and above the seconds, unless a step falls on the boundary; else it is refused. Whole states, the answer that meets a
full response queue apart, which is RequestsRefused's. That a step falling there refuses it in SERVING also is no case the manual
reaches (log 7); that the held pulse date's seconds wrap modulo 2^48 is the model's (log 16). -/
def Obligations.SecondsWriteDecides : Prop :=
  ∀ (s : State) (v : Nat) (q : Request) (rest : List Request),
    s.clock.pendingSeconds = some { value := v, due := true } → s.req.queue = q :: rest → s.req.responses.length < 4 →
    let free := s.clock.move.step = none ∧ (s.clock.pendingStep.map PendingStep.due) ≠ some true
    let ok := free ∧ (s.loader.state = .listen ∨ s.loader.state = .acquire ∨
      (s.loader.state = .serving ∧ s.agr.agreement = .alone ∧ s.clock.acc.sec < v))
    let difference : Int := (v : Int) - s.clock.acc.sec
    let answer := fun (res : Result) (data : List Byte) => { s.req with
      queue := rest, parts := [],
      responses := s.req.responses ++
        [({ code := q.code, result := res, requester := q.requester, tag := q.tag, data := data } : Response)] }
    (ok → exec .secondsWrite s = .next { s with
      clock := { s.clock with
        acc := { s.clock.acc with sec := v }, pendingSeconds := none,
        move := { s.clock.move with seconds := some difference },
        anchor := { s.clock.anchor with latest := s.clock.anchor.latest.map (fun d =>
          { d with sec := ((d.sec + difference) % 281474976710656).toNat }) } },
      req := { answer .ok (toBE 6 s.clock.acc.sec ++ toBE 6 v) with latch := true },
      agr := { s.agr with
        departures := [], inbox := s.agr.inbox.map (fun b => { b with stale := true }),
        peers := s.agr.peers.map (fun p => { p with
          ring := [], echo := none, state := if p.state = .paired then .heard else p.state }) },
      port := { s.port with
        rx := s.port.rx.map (fun r => { r with stale := true }),
        rxQueue := s.port.rxQueue.map (fun r => { r with stale := true }) } }) ∧
    (¬ ok → exec .secondsWrite s = .next { s with
      clock := { s.clock with pendingSeconds := none },
      req := { answer .wrongState [] with counts := { s.req.counts with wrongState := bump s.req.counts.wrongState } } })

/-- R22, R23, R25, R29 to R32: the date of a pulse, of the present tick or of one before it, whose date each boundary since moves;
what a pulse and the expiry of the pulse window do by the anchor state, the whole state after each. That an edge of a tick before
the anchor was enabled is passed over is the model's (log 6); so is that the seconds of a date moved wrap modulo 2^48 (log 16); so
is that an expiry before the window's deadline changes nothing (log 2), and that the window then runs from the tick at which the
expiry is taken (log 21). -/
def Obligations.PulsesAndWindows : Prop :=
  (∀ (n : Nat) (p : Fin 16) (s : State), s.clock.anchor.state = .none → exec (.pulse n p) s = .next s) ∧
  (∀ (n : Nat) (p : Fin 16) (s : State) (cfg : ImageCfg), s.loader.config = some cfg → s.clock.anchor.state ≠ .none →
    let a := s.clock.anchor
    let moved := fun (d : CageTime) (m : BoundaryMove) =>
      let d1 := match m.step with | some k => CageTime.ofQuarters (d.quarters + k) | none => d
      match m.seconds with | some k => { d1 with sec := ((d1.sec + k) % 281474976710656).toNat } | none => d1
    let since := fun (k : Nat) => ((s.clock.past.take k).map PastTick.move).reverse ++ [s.clock.move]
    let date : Option CageTime := match n with
      | 0 => some (s.clock.date p 0)
      | k + 1 => (s.clock.past[k]?).map (fun t => (since k).foldl moved (dateOf t.acc t.incr p.val 0))
    (date = none → exec (.pulse n p) s = .next s) ∧
    ∀ d, date = some d →
      let q : Int := d.ns * 4 + d.quarter
      let e : Int := if d.ns < 500000000 then q else q - 4000000000
      let taken : Anchor := { a with
        latest := some d, seen := true, pulses := bump a.pulses, window := some (s.clock.tick + 275000000) }
      let bad : Anchor := { taken with bad := bump a.bad, failed := bump a.failed }
      let after := fun (b : Anchor) (r : ReqHandler) =>
        exec (.pulse n p) s = .next { s with clock := { s.clock with anchor := b }, req := r }
      (e.natAbs ≤ cfg.captureUs * 4000 →
        (a.state = .seeking → a.goodRun + 1 < 4 → after { taken with goodRun := a.goodRun + 1 } s.req) ∧
        (a.state = .seeking → 4 ≤ a.goodRun + 1 →
          after { taken with state := .locked, goodRun := 0, failedRun := 0, correction := some (-e) } s.req) ∧
        (a.state = .locked → after { taken with failedRun := 0, correction := some (-e) } s.req) ∧
        (a.state = .lost → after { taken with state := .seeking, goodRun := 1 } s.req)) ∧
      (cfg.captureUs * 4000 < e.natAbs →
        (a.state = .seeking → after { bad with goodRun := 0 } s.req) ∧
        (a.state = .locked → a.failedRun + 1 < 3 → after { bad with failedRun := a.failedRun + 1 } s.req) ∧
        (a.state = .locked → 3 ≤ a.failedRun + 1 →
          after { bad with failedRun := a.failedRun + 1, state := .lost, correction := none } (s.req.raise .anchorLost)) ∧
        (a.state = .lost → after bad s.req))) ∧
  ∀ (s : State) (w : Nat), s.clock.anchor.window = some w →
    let a := s.clock.anchor
    let ended : Anchor := { a with failed := bump a.failed, window := some (s.clock.tick + 275000000) }
    let after := fun (b : Anchor) (r : ReqHandler) =>
      exec .pulseWindowExpiry s = .next { s with clock := { s.clock with anchor := b }, req := r }
    (s.clock.tick < w → exec .pulseWindowExpiry s = .next s) ∧
    (w ≤ s.clock.tick →
      (a.state = .seeking → after { ended with goodRun := 0 } s.req) ∧
      (a.state = .locked → a.failedRun + 1 < 3 → after { ended with failedRun := a.failedRun + 1 } s.req) ∧
      (a.state = .locked → 3 ≤ a.failedRun + 1 →
        after { ended with failedRun := a.failedRun + 1, state := .lost, correction := none } (s.req.raise .anchorLost)) ∧
      (a.state = .lost → after ended s.req))

/-- R22, R24 to R26, R28: a cage time as a count of quarter nanoseconds, and back, zero below zero; a reading is the accumulator
truncated to a quarter nanosecond; a date is the nearest quarter to the raw date less the trim, a half going to the later, and
zero below zero (the wrap of the seconds at 2^48 apart); and over any run of commands within one stay in SERVING, with no step
asked for, the dates of one line do not fall, in the order of their instants. -/
def Obligations.DatesAreFormedAndOrdered : Prop :=
  (∀ d : CageTime, d.quarters = d.sec * 4000000000 + d.ns * 4 + d.quarter) ∧
  (∀ q : Int, (q ≤ 0 → CageTime.ofQuarters q = { sec := 0, ns := 0, quarter := 0 }) ∧
    (0 ≤ q → ∃ d w, CageTime.ofQuarters q = d ∧ d.sec < 281474976710656 ∧ d.ns < 1000000000 ∧ d.quarter < 4 ∧
      (d.quarters : Int) + w * 1125899906842624000000000 = q)) ∧
  (∀ k : Clock, k.InRange →
    let n := k.reading.ns * 4 + k.reading.quarter
    k.reading.sec = k.acc.sec ∧ k.reading.ns < 1000000000 ∧ k.reading.quarter < 4 ∧
      n * 1073741824 ≤ k.acc.units ∧ k.acc.units < (n + 1) * 1073741824) ∧
  (∀ (k : Clock) (p : Fin 16) (trim : Nat), k.InRange → k.acc.sec < 281474976710655 →
    let raw : Int :=
      (((k.acc.sec * 4294967296000000000 + k.acc.units) * 16 + p.val * (17179869184 + k.adj).toNat : Nat) : Int) -
        trim * 17179869184
    let d := k.date p trim
    let q : Int := ((d.sec * 4000000000 + d.ns * 4 + d.quarter : Nat) : Int)
    d.ns < 1000000000 ∧ d.quarter < 4 ∧
      (-8589934592 ≤ raw → q * 17179869184 - 8589934592 ≤ raw ∧ raw < q * 17179869184 + 8589934592) ∧
      (raw < -8589934592 → d = { sec := 0, ns := 0, quarter := 0 })) ∧
  ∀ f : Nat → State, (∀ n, step (f n) = .next (f (n + 1))) →
    (∀ n, (f n).loader.state = .serving ∧ (f n).clock.acc.sec < 281474976710655) →
    (f 0).clock.InRange → (f 0).clock.pendingStep = none →
    ∀ (i : Line) (j k : Nat) (p q : Fin 16), j ≤ k → ((f j).clock.tick = (f k).clock.tick → p ≤ q) →
      let d := (f j).clock.date p ((f j).lineCfg i).trim
      let e := (f k).clock.date q ((f k).lineCfg i).trim
      e.before d = false

/-! ### The Agreement Unit -/

/-- R34, section 3.2: an expiry of the beacon timer makes a beacon due, or skips it while the segment link is DOWN. That an expiry
before the deadline changes nothing is the model's (log 2); so is that the next deadline counts from the tick at which the expiry
is taken (log 21). -/
def Obligations.BeaconTimerMakesDue : Prop :=
  ∀ (s : State) (cfg : ImageCfg) (d : Nat), s.loader.config = some cfg → s.agr.beaconTimer = some d →
    let next := some (s.clock.tick + cfg.beaconMs * 250000)
    s.beaconTicks = cfg.beaconMs * 250000 ∧
    (s.clock.tick < d → exec .beaconTimerExpiry s = .next s) ∧
    (d ≤ s.clock.tick → s.port.link = .up → exec .beaconTimerExpiry s = .next { s with
      agr := { s.agr with beaconTimer := next, beaconDue := true } }) ∧
    (d ≤ s.clock.tick → s.port.link = .down → exec .beaconTimerExpiry s = .next { s with
      agr := { s.agr with beaconTimer := next, skipped := bump s.agr.skipped } })

/-- R37, R38, R40 to R42, R46: a beacon taken: discarded where none is taken; a conflict survived; a number above 15 refused; a
first hearing, which makes an entry; and a beacon from a peer of the table: the seven steps of R40 in turn, whole states. What the
sample of an echo does to the entry is SamplesAreChecked's. -/
def Obligations.BeaconTakenByCase : Prop :=
  ∀ (s : State) (b : BeaconIn), s.agr.inbox = some b →
    let x := b.beacon
    let gone : Agreement := { s.agr with inbox := none }
    let heard := s.loader.state = .listen ∨ s.loader.state = .acquire ∨ s.loader.state = .serving
    let echo := if b.stale then none else some ({ t1 := x.departure, t2 := b.arrival } : EchoPair)
    let entered := fun (p : Peer) => { p with
      repState := x.state, repAgreement := x.agreement, repAnchor := x.anchor, repSpread := x.spread,
      lastBeaconTick := b.tick, lastBeaconNumber := x.number, echo := echo, deadline := b.tick + 4 * s.beaconTicks }
    let unsampled := b.stale = true ∨ ∀ e ∈ x.echoes, e.station ≠ s.loader.station
    let sampled := fun (e : EchoEntry) => b.stale = false ∧ ∃ pre post, x.echoes = pre ++ e :: post ∧
      e.station = s.loader.station ∧ ∀ y ∈ pre, y.station ≠ s.loader.station
    (¬ heard → exec .beaconTaken s = .next { s with agr := gone }) ∧
    (heard → x.station = s.loader.station → s.loader.identity < x.identity →
      let stored := some { identity := x.identity, tick := b.tick : ConflictMemory }
      (∀ m, s.agr.conflict = some m → m.identity = x.identity → b.tick ≤ m.tick + 32 * s.beaconTicks →
        exec .beaconTaken s = .next { s with agr := { gone with conflict := stored } }) ∧
      ((∀ m, s.agr.conflict = some m → m.identity ≠ x.identity ∨ m.tick + 32 * s.beaconTicks < b.tick) →
        exec .beaconTaken s = .next { s with
          agr := { gone with conflict := stored, conflicts := bump s.agr.conflicts },
          req := s.req.raise .stationConflict })) ∧
    (heard → x.station ≠ s.loader.station → (∀ p ∈ s.agr.peers, p.station ≠ x.station) →
      let made := entered { station := x.station, identity := x.identity, counts := { heard := 1 } }
      (15 < x.station → exec .beaconTaken s = .next { s with
        agr := { gone with refused := bump s.agr.refused }, req := s.req.raise .peerTableFull }) ∧
      (x.station ≤ 15 → unsampled → exec .beaconTaken s = .next { s with
        agr := { gone with peers := s.agr.peers ++ [made] } }) ∧
      (x.station ≤ 15 → ∀ e, sampled e → exec .beaconTaken s = .next { s with
        agr := { gone with peers := s.agr.peers ++ [made.sample s.sampleLimits e b] } })) ∧
    ∀ pre p post, heard → s.PeersSound → s.agr.peers = pre ++ p :: post → p.station = x.station →
      let after := fun (q : Peer) =>
        (unsampled → exec .beaconTaken s = .next { s with agr := { gone with peers := pre ++ q :: post } }) ∧
        ∀ e, sampled e → exec .beaconTaken s = .next { s with
          agr := { gone with peers := pre ++ q.sample s.sampleLimits e b :: post } }
      let d : Int := ((x.number : Int) - p.lastBeaconNumber) % 4294967296
      let again := d = 0 ∨ 2147483648 < d
      let counts := fun (missed : Nat) => { p.counts with heard := bump p.counts.heard, missed := missed }
      let missed := if again then p.counts.missed else bumpBy (d - 1).toNat p.counts.missed
      (p.identity ≠ x.identity → after (entered {
        station := p.station, identity := x.identity, state := .heard, counts := { heard := 1, identityChanges := 1 },
        lastPubFrame := none, ring := [] })) ∧
      (p.identity = x.identity → again ∨ p.repState ≠ x.state → after (entered { p with
        counts := counts missed, ring := [], state := .heard })) ∧
      (p.identity = x.identity → ¬ again → p.repState = x.state → after (entered { p with
        counts := counts missed,
        state := if p.state = .silent then (if p.ring = [] then .heard else .paired) else p.state }))

/-- R11, R21, R38, R39, R72, R100, R130, R131, R136, R150, R157, R173, R174, R181: the station that meets its own number under a
smaller identity enters CONFLICT: the whole state after it, the pool's from a sound pool. A step asked for and not yet applied
stays with the clock (log 10), the records handed over and not yet taken go with the queue (log 11), and r and A keep their values
until the next tick boundary, slew alone changing at the event (log 39): all three are the model's. -/
def Obligations.BeaconTakenEntersConflict : Prop :=
  ∀ (s : State) (b : BeaconIn), s.agr.inbox = some b → s.req.responses.length ≤ 4 →
    s.loader.state = .listen ∨ s.loader.state = .acquire ∨ s.loader.state = .serving →
    b.beacon.station = s.loader.station → b.beacon.identity < s.loader.identity →
    let unmark := fun (g : FrameRec) => if g.cls = .live ∧ g.mark = true then { g with mark := false, chain := none } else g
    let publication := ∃ g, s.port.tx = some g ∧ g.kind = .publication
    let flushed := s.req.queue.map (fun x =>
      ({ code := x.code, result := .flushed, requester := x.requester, tag := x.tag, data := [] } : Response))
    let lost := s.req.responses.length + s.req.queue.length - 4
    let req : ReqHandler := { s.req with
      queue := [], parts := [], responses := (s.req.responses ++ flushed).take 4,
      counts := { s.req.counts with
        flushed := bump^[s.req.queue.length] s.req.counts.flushed, unanswered := bump^[lost] s.req.counts.unanswered } }
    ∃ lines pool port counts,
      (∀ i : Line, lines.get i = { s.lines.get i with frame := (s.lines.get i).frame.map unmark }) ∧
      (s.PoolSound → pool = { s.pool with free := 4096, held := PerLine.all 0 }) ∧
      (∀ g, s.port.tx = some g → g.kind = .publication →
        port = { s.port with tx := none, wire := some { frame := g, ending := .abandoned } } ∧
        counts = { s.pub.counts with framesAbandoned := bump s.pub.counts.framesAbandoned }) ∧
      (¬ publication → port = s.port ∧ counts = s.pub.counts) ∧
      exec .beaconTaken s = .next { s with
        loader := { s.loader with state := .conflict },
        clock := { s.clock with slew := 0, pendingSeconds := none },
        agr := { s.agr with
          inbox := none, beaconTimer := none, roundTimer := none, beaconDue := false, peers := [], departures := [],
          servingAfterStep := none },
        lines := lines, handOffs := [], arrivals := [], feeds := s.feeds.map (fun f => { cfg := f.cfg }),
        pool := pool, pub := { frameNumber := s.pub.frameNumber, counts := counts }, port := port,
        req := req.raise .stationConflict }

/-- R42 to R44: the sample of a beacon that echoes this station: rejected by the first check that matches, or entered in the ring;
and what the checks compare with, in quarter ns; the difference of two dates is exact but for the seconds, whose difference is
reduced modulo 2^48 into -2^47 to 2^47 - 1. -/
def Obligations.SamplesAreChecked : Prop :=
  (∀ (s : State) (cfg : ImageCfg), s.loader.config = some cfg → s.sampleLimits = {
    twoB := 2 * ((cfg.beaconMs : Int) * 4000000), minDelay := (cfg.minDelayNs : Int) * 4,
    maxDelay := (cfg.maxDelayUs : Int) * 4000, departures := s.agr.departures }) ∧
  (∀ a b : CageTime, ∃ k : Int, -140737488355328 ≤ k ∧ k < 140737488355328 ∧
    ((a.sec : Int) - b.sec - k) % 281474976710656 = 0 ∧
    a.diff b = k * 4000000000 + ((a.ns : Int) * 4 + a.quarter) - ((b.ns : Int) * 4 + b.quarter)) ∧
  ∀ (p : Peer) (lim : SampleLimits) (e : EchoEntry) (b : BeaconIn),
    let t3 := b.beacon.departure
    let t4 := b.arrival
    let turn := t3.diff e.t2
    let theta := (e.t2.diff e.t1 + t3.diff t4).tdiv 2
    let delta := (t4.diff e.t1 - turn).tdiv 2
    let q := p.sample lim e b
    (turn < 0 ∨ lim.twoB < turn → q = { p with counts := { p.counts with staleEchoes := bump p.counts.staleEchoes } }) ∧
    (0 ≤ turn → turn ≤ lim.twoB →
      (e.t1 ∉ lim.departures → q = { p with counts := { p.counts with unknownEchoes := bump p.counts.unknownEchoes } }) ∧
      (e.t1 ∈ lim.departures →
        (delta < lim.minDelay → q = { p with counts := { p.counts with delayLow := bump p.counts.delayLow } }) ∧
        (lim.minDelay ≤ delta → lim.maxDelay < delta →
          q = { p with counts := { p.counts with delayHigh := bump p.counts.delayHigh } }) ∧
        (lim.minDelay ≤ delta → delta ≤ lim.maxDelay →
          q = { p with
            counts := { p.counts with accepted := bump p.counts.accepted },
            state := if p.state = .heard then .paired else p.state,
            ring := (if p.ring.length < 8 then p.ring else p.ring.drop 1) ++
              [{ offset := theta, delay := delta, tick := b.tick }] })))

/-- R46: the silence deadline of an entry of a table with one entry for each number. That its event before the deadline changes
nothing is the model's (log 2); so is that the deadline of SILENT counts from the tick at which the event is taken (log 21). -/
def Obligations.SilenceDeadlineFalls : Prop :=
  ∀ (n : Fin 16) (s : State) (p : Peer), s.PeersSound → p ∈ s.agr.peers → p.station = n.val →
    (s.clock.tick < p.deadline → exec (.silenceDeadline n) s = .next s) ∧
    (p.deadline ≤ s.clock.tick → p.state ≠ .silent → exec (.silenceDeadline n) s = .next { s with
      agr := { s.agr with peers := s.agr.peers.map (fun q =>
        if q = p then { p with state := .silent, deadline := s.clock.tick + 32 * s.beaconTicks } else q) } }) ∧
    (p.deadline ≤ s.clock.tick → p.state = .silent → exec (.silenceDeadline n) s = .next { s with
      agr := { s.agr with peers := s.agr.peers.filter (fun q => decide (q ≠ p)) }, req := s.req.raise .peerGone })

/-- R32, R47, R51 to R54: a round end, by the station state, from the round that RoundsMeasureTheOffsets says the peers and the
anchor give. That the next deadline counts from the tick at which the expiry is taken is the model's (log 21); so is that the
class and the SPREAD condition of the round that asks for a step wait for the step (log 30). The beacon interval and the max slew
are the image's. -/
def Obligations.RoundEndByState : Prop :=
  (∀ (s : State) (cfg : ImageCfg), s.loader.config = some cfg →
    s.beaconMs = cfg.beaconMs ∧ s.beaconTicks = cfg.beaconMs * 250000 ∧ s.maxSlew = cfg.maxSlew) ∧
  ∀ (s : State) (d : Nat), s.agr.roundTimer = some d → d ≤ s.clock.tick →
    let r := s.round
    let agr : Agreement := { s.agr with
      correction := r.correction, spread := r.spread, roundTimer := some (s.clock.tick + 16 * s.beaconTicks) }
    let clock : Clock := { s.clock with anchor := { s.clock.anchor with correction := none } }
    let ppb := (r.correction * 1000000000).tdiv (4 * (16 * (s.beaconMs : Int) * 1000000))
    (s.loader.state = .listen → exec .roundEnd s = .next { s with
      clock := clock, agr := { agr with roundCount := s.agr.roundCount + 1 },
      loader := { s.loader with state := if 3 ≤ s.agr.roundCount + 1 then .acquire else .listen } }) ∧
    (s.loader.state = .acquire → ∀ c, s.acquireStep r = some c → exec .roundEnd s = .next { s with
      clock := { clock with pendingStep := some { correction := c, due := false } },
      agr := { agr with servingAfterStep := some r.cls } }) ∧
    (s.loader.state = .acquire → s.acquireStep r = none → exec .roundEnd s = .next { s with
      clock := clock, agr := { agr with agreement := r.cls, servingAfterStep := none },
      loader := { s.loader with state := .serving },
      req := if r.cls = .spread then s.req.raise .spread else s.req }) ∧
    (s.loader.state = .serving → exec .roundEnd s = .next { s with
      clock := { clock with
        freq := max (-200000) (min 200000 (s.clock.freq + ppb.tdiv 8)),
        slew := max (-200000) (min 200000 (max (-s.maxSlew) (min s.maxSlew ppb))) },
      agr := { agr with agreement := r.cls },
      req := if r.cls = .spread then s.req.raise .spread else s.req })

/-- R48 to R51, R53: what a round is made of: which peers are VALID, the offset taken from each, the set of offsets, the members
kept, the midpoint and the spread, the class by its four rows, the correction and the step of ACQUIRE. That members of equal value
are removed one at a time is the model's (log 18). -/
def Obligations.RoundsMeasureTheOffsets : Prop :=
  (∀ (peers : List Peer) (st : StationState) (now ticks : Nat),
    let recent := fun (p : Peer) => p.ring.filter (fun x => decide (now < x.tick + 32 * ticks))
    let candidate := fun (p : Peer) => p.state = .paired ∧ 2 ≤ (recent p).length
    let widened := st = .acquire ∧ ∀ p ∈ peers, candidate p → p.repState ≠ 5
    (validPeers peers st now ticks).Sublist peers ∧
    (∀ p, p ∈ validPeers peers st now ticks ↔
      p ∈ peers ∧ candidate p ∧ (p.repState = 5 ∨ (widened ∧ (p.repState = 3 ∨ p.repState = 4)))) ∧
    ∀ p, candidate p → ∃ pre x post, recent p = pre ++ x :: post ∧ p.filteredOffset now ticks = x.offset ∧
      (∀ y ∈ pre, x.delay ≤ y.delay) ∧ ∀ y ∈ post, x.delay < y.delay) ∧
  (∀ (a : AnchorState) (valid : List Peer) (now ticks : Nat),
    let offset := fun (p : Peer) => p.filteredOffset now ticks
    (a ≠ .locked → (∃ p ∈ valid, p.repAnchor = 3) →
      offsetSet a valid now ticks = (valid.filter (fun p => decide (p.repAnchor = 3))).map offset) ∧
    (a = .locked ∨ (∀ p ∈ valid, p.repAnchor ≠ 3) → offsetSet a valid now ticks = 0 :: valid.map offset)) ∧
  (∀ (x : Int) (xs : List Int),
    let m := midpointSpread (x :: xs)
    ∃ lo ∈ x :: xs, ∃ hi ∈ x :: xs, (∀ y ∈ x :: xs, lo ≤ y ∧ y ≤ hi) ∧
      m.1 = (lo + hi).tdiv 2 ∧ (m.2 : Int) = hi - lo) ∧
  (∀ os : List Int, os.length < 4 → trimOffsets os = os) ∧
  (∀ os : List Int, 4 ≤ os.length → ∃ lo hi : Int, (lo :: hi :: trimOffsets os).Perm os ∧ ∀ y ∈ os, lo ≤ y ∧ y ≤ hi) ∧
  (∀ (s : State) (cfg : ImageCfg), s.loader.config = some cfg →
    let ticks := cfg.beaconMs * 250000
    let a := s.clock.anchor
    let valid := validPeers s.agr.peers s.loader.state s.clock.tick ticks
    let m := midpointSpread (trimOffsets (offsetSet a.state valid s.clock.tick ticks))
    let r := s.round
    (r.anyValid = true ↔ valid ≠ []) ∧ r.midpoint = m.1 ∧ r.spread = m.2 ∧
      (a.state ≠ .locked → r.correction = m.1) ∧
      (a.state = .locked → r.correction = a.correction.getD 0 ∧ r.cls = .anchored) ∧
      (a.state ≠ .locked → valid = [] → r.cls = .alone) ∧
      (a.state ≠ .locked → valid ≠ [] → m.2 ≤ cfg.agreeNs * 4 → r.cls = .agreed) ∧
      (a.state ≠ .locked → valid ≠ [] → cfg.agreeNs * 4 < m.2 → r.cls = .spread)) ∧
  (∀ (s : State) (cfg : ImageCfg) (r : Round), s.loader.config = some cfg →
    let a := s.clock.anchor
    (∀ d, cfg.anchorEnabled = true → a.seen = true → a.latest = some d →
      ∃ k : Int,
        let m := if r.anyValid then r.midpoint else 0
        s.acquireStep r = some (k * 4000000000 - d.quarters) ∧
          2 * (d.quarters + m) - 4000000000 < 2 * (k * 4000000000) ∧
          2 * (k * 4000000000) ≤ 2 * (d.quarters + m) + 4000000000) ∧
    (cfg.anchorEnabled = false ∨ a.seen = false →
      (r.anyValid = true → s.acquireStep r = some r.midpoint) ∧ (r.anyValid = false → s.acquireStep r = none)))

/-! ### The Publisher -/

/-- R141 to R144, R146, R148: a record taken: discarded outside SERVING; shed into its feed's counts, with the first and last shed
date; dropped; or enqueued, stripped of its payload while SHEDDING, with the entry to SHEDDING at a depth of 768. A FILLING frame
that the new head does not fit then meets its closing condition (checkFull, of which ClosingConditions speaks). -/
def Obligations.RecordTakenByState : Prop :=
  ∀ (m : Maker) (s : State) (r : Record) (rest : List Record), s.pub.waiting m = r :: rest →
    let p := s.pub.setWaiting m rest
    let shedVerdict := ∃ a : ArrivalRec, r = .arrival a ∧
      (a.verdict = .duplicate ∨ a.verdict = .keepalive ∨ a.verdict = .stale ∨ a.verdict = .stray)
    let counted := fun (a : ArrivalRec) (c : ShedCounts) =>
      let none := c.duplicate = 0 ∧ c.keepalive = 0 ∧ c.stale = 0 ∧ c.stray = 0
      ({ duplicate := if a.verdict = .duplicate then bump c.duplicate else c.duplicate,
         keepalive := if a.verdict = .keepalive then bump c.keepalive else c.keepalive,
         stale := if a.verdict = .stale then bump c.stale else c.stale,
         stray := if a.verdict = .stray then bump c.stray else c.stray,
         dates := some (if none then a.date else (c.dates.map Prod.fst).getD a.date, a.date) } : ShedCounts)
    let crossed := fun (t : State) =>
      if t.pub.queue.length = 768 ∧ t.pub.state = .normal then
        { t with pub := { t.pub with state := .shedding }, req := t.req.raise .shedding }
      else t
    (s.loader.state ≠ .serving → exec (.recordTaken m) s = .next { s with pub := p, pool := s.pool.releaseOpt r.chain }) ∧
    (s.loader.state = .serving → s.pub.state = .shedding → ∀ a : ArrivalRec, r = .arrival a → shedVerdict →
      exec (.recordTaken m) s = .next { s with
        pool := s.pool.releaseOpt a.chain,
        feeds := s.feeds.map (fun f => if a.feed = some f.cfg.feed then { f with shed := counted a f.shed } else f),
        pub := { p with counts := { p.counts with shed := bump p.counts.shed } } }) ∧
    (s.loader.state = .serving → s.pub.state = .normal ∨ ¬ shedVerdict →
      (p.queue.length = 1024 → exec (.recordTaken m) s = .next { s with
        pool := s.pool.releaseOpt r.chain, req := s.req.raise .recordsDropped,
        pub := { p with drop := bump p.drop, counts := { p.counts with dropped := bump p.counts.dropped } } }) ∧
      (p.queue.length ≠ 1024 → s.pub.state = .normal ∨ r.hasPayload = false →
        exec (.recordTaken m) s = .next
          (crossed { s with pub := { p with
            queue := p.queue ++ [r], counts := { p.counts with queued := bump p.counts.queued } } }).checkFull) ∧
      (p.queue.length ≠ 1024 → s.pub.state = .shedding → ∀ a : ArrivalRec, r = .arrival a → 0 < a.heldLength →
        exec (.recordTaken m) s = .next
          (crossed { s with
            pool := s.pool.releaseOpt a.chain,
            pub := { p with
              queue := p.queue ++ [Record.arrival { a with payloadShed := true, chain := a.chain.map Chain.emptied }],
              counts := { p.counts with queued := bump p.counts.queued,
                                        stripped := bump p.counts.stripped } } }).checkFull))

/-- R137, R140, R145, R147, R148: the head of the queue enters the frame under assembly: the first starts the batch timer, the
depth's fall to 256 while SHEDDING brings NORMAL and the SUMMARY records, then the closing conditions are tested (checkFull, of
which ClosingConditions speaks); a head that does not fit stays. The batch timer's length is the image's. -/
def Obligations.RecordEntersFrame : Prop :=
  (∀ (s : State) (cfg : ImageCfg), s.loader.config = some cfg → s.batchTicks = cfg.batchUs * 250) ∧
  ∀ (s : State) (r : Record) (rest : List Record), s.pub.queue = r :: rest →
    let fits := s.pub.asm.length < 16 ∧ (s.pub.asm.map Record.encodedLength).sum + r.encodedLength ≤ 8960
    let timer := if s.pub.asmState = .empty then some (s.clock.tick + s.batchTicks) else s.pub.batchTimer
    let p : Publisher := { s.pub with
      queue := rest, asm := s.pub.asm ++ [r], asmState := .filling, batchTimer := timer }
    let sums := s.feeds.filterMap (fun f =>
      if f.shed.duplicate = 0 ∧ f.shed.keepalive = 0 ∧ f.shed.stale = 0 ∧ f.shed.stray = 0 then none
      else some (Record.summary f.cfg.feed f.shed))
    (s.pub.asmState = .complete ∨ ¬ fits → exec .recordEntersFrame s = .next s) ∧
    (s.pub.asmState ≠ .complete → fits → ¬ (rest.length = 256 ∧ s.pub.state = .shedding) →
      exec .recordEntersFrame s = .next (State.checkFull { s with pub := p })) ∧
    (s.pub.asmState ≠ .complete → fits → rest.length = 256 → s.pub.state = .shedding →
      exec .recordEntersFrame s = .next (State.checkFull { s with
        feeds := s.feeds.map (fun f => { f with shed := {} }),
        pub := { p with
          state := .normal, queue := rest ++ sums,
          counts := { p.counts with queued := bumpBy sums.length p.counts.queued,
                                    summaries := bumpBy sums.length p.counts.summaries } } }))

/-- R148, R149: the three closing conditions of a FILLING frame, 16 records, a head that does not fit by its size, and the expiry
of its batch timer: into an empty slot the frame closes with its header fixed and the frame number and drop count moved on; over
an occupied slot it is COMPLETE. That the timer's expiry before its deadline changes nothing is the model's (log 2). -/
def Obligations.ClosingConditions : Prop :=
  (∀ s : State, s.pub.asmState ≠ .filling → s.checkFull = s) ∧
  ∀ s : State, s.pub.asmState = .filling →
    let closed := { s with pub := { s.pub with
      ready := some { station := s.loader.station, identity := s.loader.identity, number := s.pub.frameNumber,
                      agreement := s.agr.agreement, spread := s.agr.spread, drop := s.pub.drop, records := s.pub.asm },
      frameNumber := (s.pub.frameNumber + 1) % 4294967296, drop := 0,
      counts := { s.pub.counts with framesClosed := bump s.pub.counts.framesClosed },
      asm := [], asmState := .empty, batchTimer := none } }
    let complete := { s with pub := { s.pub with asmState := .complete, batchTimer := none } }
    let met := 16 ≤ s.pub.asm.length ∨
      ∃ r rest, s.pub.queue = r :: rest ∧ 8960 < (s.pub.asm.map Record.encodedLength).sum + r.encodedLength
    (∀ d, s.pub.batchTimer = some d →
      (s.clock.tick < d → exec .batchTimerExpiry s = .next s) ∧
      (d ≤ s.clock.tick → s.pub.ready = none → exec .batchTimerExpiry s = .next closed) ∧
      (d ≤ s.clock.tick → s.pub.ready ≠ none → exec .batchTimerExpiry s = .next complete)) ∧
    (¬ met → s.checkFull = s) ∧ (met → s.pub.ready = none → s.checkFull = closed) ∧
    (met → s.pub.ready ≠ none → s.checkFull = complete)

/-- R140: the encoded length of each kind of record; the size of a frame is their sum; the largest record is 1,600 bytes and
every record of such a held length fits an empty frame; read-out never makes a record longer than it was reckoned. -/
def Obligations.EncodedLengths : Prop :=
  (∀ a : ArrivalRec, (Record.arrival a).encodedLength = 64 + (a.heldLength + 7) / 8 * 8) ∧
  (∀ f n c w l d, (Record.yielded f n c w l d).encodedLength = 48) ∧
  (∀ f n c k r, (Record.lost f n c k r).encodedLength = 32) ∧
  (∀ f c, (Record.summary f c).encodedLength = 48) ∧
  (∀ t a b l, (Record.mark t a b l).encodedLength = 32) ∧
  (∀ rs : List Record, recordsSize rs = (rs.map Record.encodedLength).sum) ∧
  (∀ a : ArrivalRec, a.heldLength = 1532 → (Record.arrival a).encodedLength = 1600) ∧
  (∀ (p : Publisher) (r : Record), p.asm = [] → (∀ a, r = .arrival a → a.heldLength ≤ 1532) →
    r.encodedLength ≤ 1600 ∧ p.fits r = true) ∧
  ∀ (r : Record) (us : List Upset) (k : Nat), (r.readOut us k).length ≤ r.encodedLength ∧
    (faulty us k r.heldCells = true → (r.readOut us k).length < r.encodedLength)

/-- R151 to R153, R179: an armed mark fires at a reading at or above its target; that the firing's event below it changes nothing is
the model's (log 2). MARK and CANCEL_MARK in SERVING, and the two orders of each against the firing: the response tells whether the
old mark made a record. -/
def Obligations.MarkRequestsAndOrders : Prop :=
  (∀ a b : CageTime, a.before b = true ↔
    a.sec < b.sec ∨ (a.sec = b.sec ∧ (a.ns < b.ns ∨ (a.ns = b.ns ∧ a.quarter < b.quarter)))) ∧
  (∀ (s : State) (m : ArmedMark), s.pub.mark = some m →
    (s.clock.reading.before m.target = true → exec .markFire s = .next s) ∧
    (s.clock.reading.before m.target = false → exec .markFire s = .next { s with pub := { s.pub with
      mark := none,
      fromMarks := s.pub.fromMarks ++ [.mark m.tag m.target s.clock.reading false],
      counts := { s.pub.counts with marksFired := bump s.pub.counts.marksFired } } })) ∧
  ∀ (s : State) (q : Request) (rest : List Request),
    s.loader.state = .serving → s.req.queue = q :: rest → s.req.responses.length < 4 →
    let answer := fun (res : Result) (data : List Byte) => { s.req with
      queue := rest, parts := [],
      responses := s.req.responses ++ [{ code := q.code, result := res, requester := q.requester, tag := q.tag, data := data }] }
    let target := timeAt q.args 0
    let asked : ArmedMark := { target := target, tag := natAt q.args 10 4 }
    let late : Publisher := { s.pub with
      mark := none,
      fromMarks := s.pub.fromMarks ++ [.mark asked.tag target s.clock.reading true],
      counts := { s.pub.counts with
        marksFired := bump s.pub.counts.marksFired, marksLate := bump s.pub.counts.marksLate } }
    let taken := if s.pub.mark = none then Result.ok else .replaced
    (q.code = 6 → target.valid = true →
      (s.clock.reading.before target = true → exec .mark s = .next { s with
        pub := { s.pub with mark := some asked }, req := answer taken [1] }) ∧
      (s.clock.reading.before target = false → exec .mark s = .next { s with pub := late, req := answer taken [2] })) ∧
    (q.code = 6 → target.valid = false → exec .mark s = .next { s with req := { answer .badArgument [] with
      counts := { s.req.counts with badArgument := bump s.req.counts.badArgument } } }) ∧
    (q.code = 7 → s.pub.mark = none → exec .cancelMark s = .next { s with req := answer .noneArmed [] }) ∧
    (q.code = 7 → s.pub.mark ≠ none →
      let t := { s with pub := { s.pub with mark := none }, req := answer .ok [] }
      exec .cancelMark s = .next t ∧ exec .markFire t = .next t) ∧
    ∀ m, s.pub.mark = some m → s.clock.reading.before m.target = false →
      let fired : Publisher := { s.pub with
        mark := none,
        fromMarks := s.pub.fromMarks ++ [.mark m.tag m.target s.clock.reading false],
        counts := { s.pub.counts with marksFired := bump s.pub.counts.marksFired } }
      exec .markFire s = .next { s with pub := fired } ∧
        (q.code = 7 → exec .cancelMark { s with pub := fired } = .next { s with pub := fired, req := answer .noneArmed [] }) ∧
        (q.code = 6 → target.valid = true → s.clock.reading.before target = true →
          exec .mark { s with pub := fired } = .next { s with
            pub := { fired with mark := some asked }, req := answer .ok [1] })

/-! ### The segment port: sending -/

/-- R34 to R36, R154, R155, R160, R172, R183: what the arbiter sends when no ready frame is its choice: the first of a due
beacon, a pending ALERT and the head response, with its content and what its leaving changes; nothing while the link is DOWN or
a frame is on the wire; the code numbers of the states and results it carries are those of sections 12.3 and 12.5. The bytes of a
frame about its content are BeaconsAreReadBack's. -/
def Obligations.TransmitChoosesInOrder : Prop :=
  (let coded := fun {α : Type} (code : α → Nat) (xs : List α) => xs.map code = List.range' 1 xs.length
   coded StationState.code [.loading, .halted, .listen, .acquire, .serving, .conflict] ∧
    coded AgreementState.code [.acquiring, .anchored, .alone, .agreed, .spread] ∧
    coded AnchorState.code [.none, .seeking, .locked, .lost] ∧
    coded Result.code [.ok, .busy, .wrongState, .badArgument, .alreadySet, .flushed, .replaced, .noneArmed]) ∧
  ∀ (p : Fin 16) (us : List Upset) (s : State),
    let wire := fun (k : FrameKind) (content : List Byte) =>
      { s.port with tx := some (s.buildFrame k s.loader.station s.loader.identity content) }
    let date := s.clock.date p 0
    let echo := fun (q : Peer) => q.echo.bind (fun e =>
      if s.clock.tick ≤ q.lastBeaconTick + 32 * s.beaconTicks then
        some ({ station := q.station, t1 := e.t1, t2 := e.t2 } : EchoEntry)
      else none)
    let carried := if s.loader.state = .listen ∨ s.loader.state = .acquire then AgreementState.acquiring else s.agr.agreement
    (s.port.link = .down ∨ s.port.tx ≠ none → exec (.transmitChoice p us) s = .next s) ∧
    (s.port.link = .up → s.port.tx = none →
      (s.agr.beaconDue = true → exec (.transmitChoice p us) s = .next { s with
        port := wire .beacon (Beacon.encode {
          station := s.loader.station, identity := s.loader.identity, state := s.loader.state.code, agreement := carried.code,
          anchor := s.clock.anchor.state.code, spread := s.agr.spread, number := s.agr.beaconNumber, departure := date,
          echoes := s.agr.peers.filterMap echo }),
        agr := { s.agr with
          beaconDue := false, beaconNumber := (s.agr.beaconNumber + 1) % 4294967296,
          beaconsSent := bump s.agr.beaconsSent,
          departures := (if s.agr.departures.length < 32 then s.agr.departures else s.agr.departures.drop 1) ++ [date] } }) ∧
      (s.agr.beaconDue = false → s.req.alertPending = true → exec (.transmitChoice p us) s = .next { s with
        port := wire .alert (toBE 1 s.loader.state.code ++ [0] ++ toBE 4 s.req.alertNumber ++ [0, 0] ++
          toBE 4 s.req.set.toNat ++ toBE 4 s.req.fresh.toNat ++ toBE 4 s.req.enabled.toNat),
        req := { s.req with
          fresh := 0, alertNumber := (s.req.alertNumber + 1) % 4294967296, alertPending := false,
          counts := { s.req.counts with alertsSent := bump s.req.counts.alertsSent } } }) ∧
      (s.agr.beaconDue = false → s.req.alertPending = false → ∀ r rest, s.req.responses = r :: rest →
        exec (.transmitChoice p us) s = .next { s with
          port := wire .response (toBE 1 r.code ++ toBE 1 r.result.code ++ toBE 6 r.requester ++ toBE 4 r.tag ++
            toBE 2 r.data.length ++ [0, 0] ++ r.data),
          req := { s.req with responses := rest } }) ∧
      (s.agr.beaconDue = false → s.req.alertPending = false → s.req.responses = [] → s.pub.ready = none →
        exec (.transmitChoice p us) s = .next s))

/-- R132, R133, R150, R154: the ready frame leaves when nothing is before it: its header and its records read out in order, the
chains released, a store fault counted for each faulted record and raised once; the slot empties, and a COMPLETE frame closes
into it. That the header's spread saturates at 2^32 - 1 is read from the beacon's layout (log 27). -/
def Obligations.PublicationLeaves : Prop :=
  ∀ (p : Fin 16) (us : List Upset) (s : State) (f : ReadyFrame),
    s.port.link = .up → s.port.tx = none → s.agr.beaconDue = false → s.req.alertPending = false → s.req.responses = [] →
    s.pub.ready = some f →
    let bad := (f.records.zipIdx.filter (fun x => faulty us x.2 x.1.heldCells)).length
    let pool := (f.records.map Record.chain).foldl Pool.releaseOpt s.pool
    let head := toBE 4 f.number ++ toBE 1 f.agreement.code ++ toBE 1 f.records.length ++ [0, 0] ++
      toBE 4 (min f.spread 4294967295) ++ toBE 4 f.drop
    let t := { s with
      port := { s.port with tx := some (s.buildFrame .publication f.station f.identity
        (head ++ (f.records.zipIdx.map (fun x => x.1.readOut us x.2)).flatten)) },
      pool := { pool with storeFaults := bumpBy bad s.pool.storeFaults },
      pub := { s.pub with ready := none },
      req := if bad = 0 then s.req else s.req.raise .storeFault }
    (s.pub.asmState ≠ .complete → exec (.transmitChoice p us) s = .next t) ∧
    (s.pub.asmState = .complete → exec (.transmitChoice p us) s = .next { t with pub := { s.pub with
      ready := some { station := s.loader.station, identity := s.loader.identity, number := s.pub.frameNumber,
                      agreement := s.agr.agreement, spread := s.agr.spread, drop := s.pub.drop, records := s.pub.asm },
      frameNumber := (s.pub.frameNumber + 1) % 4294967296, drop := 0,
      counts := { s.pub.counts with framesClosed := bump s.pub.counts.framesClosed },
      asm := [], asmState := .empty, batchTimer := none } })

/-- R123, R129, R132, R133: the payload of a record is read out as the first held bytes of its frame, whatever the mode; with
any held byte faulted, and only then, the record goes out without payload and flagged, 64 bytes long. -/
def Obligations.ReadOutGivesHeldBytes : Prop :=
  ∀ (i : Line) (bs : List Byte) (captured k : Nat) (mode : Carriage) (a : ArrivalRec) (us : List Upset),
    captured ≤ bs.length →
    let whole : Chain := { bs.foldl Chain.append { line := i } with captured := some captured }
    let held := match mode with
      | .none => 0
      | .header => min captured 64
      | .full => captured
    let r := Record.arrival { a with chain := some (whole.trim mode) }
    ((∀ j, j < held → { record := k, byte := j } ∉ us) →
      r.readOut us k = a.encode (bs.take held) ∧ (r.readOut us k).length = 64 + (held + 7) / 8 * 8) ∧
    ((∃ j, j < held ∧ { record := k, byte := j } ∈ us) →
      r.readOut us k = ArrivalRec.encode { a with payloadFault := true } [] ∧ (r.readOut us k).length = 64)

/-- R34, R150, R154, R158, R159: the end of a frame on the wire, and the segment link's two events, whole states. -/
def Obligations.SegmentLinkAndFrameEnds : Prop :=
  (∀ (s : State) (f : TxFrame), s.port.tx = some f → exec .segmentTxEnd s = .next { s with
    port := { s.port with tx := none, wire := some { frame := f, ending := .whole } },
    pub := if f.kind = .publication then
        { s.pub with counts := { s.pub.counts with framesSent := bump s.pub.counts.framesSent } }
      else s.pub }) ∧
  (∀ s : State, exec .segmentLinkUp s = .next { s with port := { s.port with link := .up } }) ∧
  ∀ s : State, s.port.link = .up →
    let lost : PortCounts := { s.port.counts with
      linkLosses := bump s.port.counts.linkLosses,
      rxCut := if s.port.rx = none then s.port.counts.rxCut else bump s.port.counts.rxCut }
    let agr := if s.agr.beaconDue then { s.agr with beaconDue := false, skipped := bump s.agr.skipped } else s.agr
    (s.port.tx = none → exec .segmentLinkLoss s = .next { s with
      port := { s.port with link := .down, rx := none, counts := lost }, agr := agr }) ∧
    ∀ f, s.port.tx = some f → exec .segmentLinkLoss s = .next { s with
      port := { s.port with
        link := .down, rx := none, tx := none, wire := some { frame := f, ending := .cut }, counts := lost },
      agr := agr,
      pub := if f.kind = .publication then
          { s.pub with counts := { s.pub.counts with framesAbandoned := bump s.pub.counts.framesAbandoned } }
        else s.pub }

/-! ### The segment port: receiving -/

/-- R27, R161 to R163, section 9.4: a frame is dated at its delimiter with trim 0; at its end the six tests in their order, each
with its counter, and the receive queue of 64. -/
def Obligations.SegmentFramesAreFiltered : Prop :=
  (∀ (p : Fin 16) (s : State), s.port.link = .up → s.port.rx = none →
    exec (.segmentStartDelimiter p) s = .next { s with
      port := { s.port with rx := some { date := s.clock.date p 0, stale := false } } }) ∧
  ∀ (bytes : List Byte) (e : Bool) (s : State) (r : RxInFlight), s.port.rx = some r →
    let bs := bytes.take (bytes.length - 4)
    let t := if natAt bs 12 2 = 0x8100 ∨ natAt bs 12 2 = 0x88A8 then 4 else 0
    let k := s.port.counts
    let after := fun (n : PortCounts) =>
      exec (.segmentFrameReceived bytes e) s = .next { s with port := { s.port with rx := none, counts := n } }
    let sound := e = false ∧ 64 ≤ bytes.length ∧ bytes.length ≤ 9216 ∧ bytes.drop (bytes.length - 4) = fcsBytes (crc32 bs)
    let group := match s.loader.config with | some c => c.group | none => BitVec.allOnes 48
    let type := match s.loader.config with | some c => c.typeCode | none => 0x88B5
    let addressed := natAt bs 0 6 = group.toNat ∨ natAt bs 0 6 = s.loader.identity.toNat
    let protocol := natAt bs (12 + t) 2 = type
    let cage := ∀ c, s.loader.config = some c → natAt bs (16 + t) 2 = c.cageNumber
    let own := natAt bs (18 + t) 6 = s.loader.identity.toNat
    (¬ sound → after { k with rxDamaged := bump k.rxDamaged }) ∧
    (sound → ¬ addressed → after { k with rxNotAddressed := bump k.rxNotAddressed }) ∧
    (sound → addressed → ¬ protocol → after { k with rxOtherProtocol := bump k.rxOtherProtocol }) ∧
    (sound → addressed → protocol → bs.length < 26 + t → after { k with rxMalformed := bump k.rxMalformed }) ∧
    (sound → addressed → protocol → 26 + t ≤ bs.length →
      (¬ cage → after { k with rxOtherCage := bump k.rxOtherCage }) ∧
      (cage → own → after { k with ownEchoes := bump k.ownEchoes }) ∧
      (cage → ¬ own → s.port.rxQueue.length < 64 → exec (.segmentFrameReceived bytes e) s = .next { s with
        port := { s.port with
          rx := none, rxQueue := s.port.rxQueue ++ [{ bytes := bs, date := r.date, stale := r.stale }],
          counts := { k with rxAccepted := bump k.rxAccepted } } }) ∧
      (cage → ¬ own → 64 ≤ s.port.rxQueue.length → exec (.segmentFrameReceived bytes e) s = .next { s with
        port := { s.port with rx := none, counts := { k with rxOverruns := bump k.rxOverruns } },
        req := s.req.raise .segmentRxOverrun }))

/-- R164, R165, sections 12.2, 12.3, 12.5: the head of the receive queue leaves by its kind: a beacon to the Agreement Unit with
the tick of its hand-off; replies, unknown kinds and requests for others counted; what does not fit its length malformed. A head
of kind PUBLICATION, well formed or not, holds the queue while the arbiter has the frame before. That a frame waits while a beacon
handed over is untaken is the model's (log 24); so is that a content length past the frame's end is malformed whatever the kind, a
RESPONSE, an ALERT or an unknown one among them (log 9). -/
def Obligations.DispatchByKind : Prop :=
  ∀ (straps : Fin 16) (s : State) (f : RxFrame) (rest : List RxFrame), s.port.rxQueue = f :: rest →
    let t := if natAt f.bytes 12 2 = 0x8100 ∨ natAt f.bytes 12 2 = 0x88A8 then 4 else 0
    let kind := natAt f.bytes (14 + t) 1
    let n := natAt f.bytes (24 + t) 2
    let c := slice f.bytes (26 + t) n
    let k := s.port.counts
    let after := fun (x : PortCounts) =>
      exec (.dispatch straps) s = .next { s with port := { s.port with rxQueue := rest, counts := x } }
    let malformed := after { k with rxMalformed := bump k.rxMalformed }
    let args := if natAt c 1 1 = 2 then 2 else if natAt c 1 1 = 5 then 8 else if natAt c 1 1 = 6 then 14
      else if natAt c 1 1 = 8 ∨ natAt c 1 1 = 9 then 4 else 0
    let waits := s.agr.inbox ≠ none ∨ (kind = 2 ∧ s.arbiter.frame ≠ none)
    (waits → exec (.dispatch straps) s = .next s) ∧
    (¬ waits → f.bytes.length < 26 + t + n → malformed) ∧
    (¬ waits → 26 + t + n ≤ f.bytes.length →
      (kind = 1 → n < 24 ∨ 15 < natAt c 3 1 ∨ n < 24 + 24 * natAt c 3 1 → malformed) ∧
      (kind = 1 → 24 + 24 * natAt c 3 1 ≤ n → natAt c 3 1 ≤ 15 → exec (.dispatch straps) s = .next { s with
        port := { s.port with rxQueue := rest },
        agr := { s.agr with inbox := some {
          arrival := f.date, tick := s.clock.tick, stale := f.stale,
          beacon := {
            station := natAt f.bytes (15 + t) 1, identity := BitVec.ofNat 48 (natAt f.bytes (18 + t) 6),
            state := natAt c 0 1, agreement := natAt c 1 1, anchor := natAt c 2 1, number := natAt c 4 4,
            spread := natAt c 8 4, departure := timeAt c 12,
            echoes := (List.range (natAt c 3 1)).map (fun j => {
              station := natAt c (24 + 24 * j) 1, t1 := timeAt c (26 + 24 * j), t2 := timeAt c (36 + 24 * j) }) } } } }) ∧
      (kind = 2 → n < 16 → malformed) ∧
      (kind = 3 → n < 12 + args → malformed) ∧
      (kind = 3 → 12 + args ≤ n → natAt c 0 1 ≠ s.loader.station → natAt c 0 1 ≠ 255 →
        after { k with otherRequests := bump k.otherRequests }) ∧
      (kind = 4 ∨ kind = 5 → after { k with foreignReplies := bump k.foreignReplies }) ∧
      (kind = 0 ∨ 5 < kind → after { k with unknownKind := bump k.unknownKind }))

/-- R102, R165, R166, R197: which records of a publication frame the walk reads: as many as the record count gives, up to the
first that does not lie whole within the content or whose length is below 32 or not a multiple of 8; a header that is whole is
enough for the frame to be dispatched (log 8). And a publication frame at the head when the arbiter holds none: the frame number
check in the entry of its station and identity, or the untracked count, and the frame goes to the arbiter with the records that
can be read. -/
def Obligations.PublicationFramesAreChecked : Prop :=
  (∀ bs : List Byte,
    let t := if natAt bs 12 2 = 0x8100 ∨ natAt bs 12 2 = 0x88A8 then 4 else 0
    let n := natAt bs (24 + t) 2
    let c := slice bs (26 + t) n
    natAt bs (14 + t) 1 = 2 → 26 + t + n ≤ bs.length → 16 ≤ n →
      ∃ recs left, readFrame bs =
          .publication (natAt bs (15 + t) 1) (BitVec.ofNat 48 (natAt bs (18 + t) 6)) (natAt c 0 4) recs ∧
        c.drop 16 = recs.flatten ++ left ∧ recs.length ≤ natAt c 5 1 ∧
        (∀ r ∈ recs, natAt r 2 2 = r.length ∧ 32 ≤ r.length ∧ r.length % 8 = 0) ∧
        (recs.length < natAt c 5 1 → left.length < 4 ∨ natAt left 2 2 < 32 ∨ natAt left 2 2 % 8 ≠ 0 ∨
          left.length < natAt left 2 2)) ∧
  ∀ (straps : Fin 16) (s : State) (f : RxFrame) (rest : List RxFrame) (q n : Nat) (id : Identity) (recs : List (List Byte)),
    s.port.rxQueue = f :: rest → s.agr.inbox = none → s.arbiter.frame = none → readFrame f.bytes = .publication q id n recs →
    let arbiter : Arbiter := { s.arbiter with
      frame := if recs = [] ∧ q ≠ s.loader.station ∧ q ≤ 15 then none else some { station := q, records := recs } }
    ((∀ p ∈ s.agr.peers, p.station ≠ q ∨ p.identity ≠ id) → exec (.dispatch straps) s = .next { s with
      port := { s.port with
        rxQueue := rest, counts := { s.port.counts with untracked := bump s.port.counts.untracked } },
      arbiter := arbiter }) ∧
    ∀ pre p post, s.agr.peers = pre ++ p :: post → p.station = q → p.identity = id →
      (∀ x ∈ pre ++ post, x.station ≠ q) →
      let k : PeerCounts := { p.counts with pubFrames := bump p.counts.pubFrames }
      let after := fun (c : PeerCounts) => exec (.dispatch straps) s = .next { s with
        port := { s.port with rxQueue := rest }, arbiter := arbiter,
        agr := { s.agr with peers := pre ++ { p with lastPubFrame := some n, counts := c } :: post } }
      (p.lastPubFrame = none → after k) ∧
      ∀ last, p.lastPubFrame = some last →
        let d := ((n : Int) - last) % 4294967296
        (1 ≤ d → d ≤ 2147483648 → after { k with missedFrames := bumpBy (d - 1).toNat k.missedFrames }) ∧
        (d = 0 ∨ 2147483648 < d → after { k with numberFalls := bump k.numberFalls })

/-- R169, R172: a request for this station, RESTART apart, is queued, or refused BUSY at a full queue, the response formed or,
at a full response queue, discarded and counted. -/
def Obligations.RequestsArrive : Prop :=
  ∀ (straps : Fin 16) (s : State) (f : RxFrame) (rest : List RxFrame) (target : Nat) (q : Request),
    s.port.rxQueue = f :: rest → s.agr.inbox = none → readFrame f.bytes = .request target q →
    target = s.loader.station ∨ target = 255 → q.code ≠ 10 →
    let k : ReqCounts := { s.req.counts with received := bump s.req.counts.received }
    let busy : ReqCounts := { k with busy := bump k.busy }
    let after := fun (r : ReqHandler) =>
      exec (.dispatch straps) s = .next { s with port := { s.port with rxQueue := rest }, req := r }
    (s.req.queue.length < 2 → after { s.req with counts := k, queue := s.req.queue ++ [q] }) ∧
    (2 ≤ s.req.queue.length → s.req.responses.length < 4 → after { s.req with
      counts := busy,
      responses := s.req.responses ++
        [{ code := q.code, result := .busy, requester := q.requester, tag := q.tag, data := [] }] }) ∧
    (2 ≤ s.req.queue.length → 4 ≤ s.req.responses.length → after { s.req with
      counts := { busy with unanswered := bump busy.unanswered } })

/-- R13, R56, R100, R135, R150, R157, R168, R173, R185, R187, R194: a RESTART outside LOADING: the queue answered FLUSHED and the
RESTART OK, as far as the response queue holds, and what every block keeps and loses; in LOADING it is refused. That a step asked
for and not yet applied stays with the clock (log 10), that the arbiter keeps the frame it holds (log 19), that the records
handed over and not yet taken go with the queue (log 11), that the settle error count of a line in DOWN is zeroed too (log 38) and
that r and A keep their values until the next tick boundary (log 39) are the model's. -/
def Obligations.RestartStartsAfresh : Prop :=
  ∀ (straps : Fin 16) (s : State) (f : RxFrame) (rest : List RxFrame) (target : Nat) (q : Request),
    s.port.rxQueue = f :: rest → s.agr.inbox = none → readFrame f.bytes = .request target q →
    target = s.loader.station ∨ target = 255 → q.code = 10 → s.req.responses.length ≤ 4 →
    let answer := fun (r : Result) (x : Request) =>
      ({ code := x.code, result := r, requester := x.requester, tag := x.tag, data := [] } : Response)
    let unmark := fun (g : FrameRec) => if g.cls = .live ∧ g.mark = true then { g with mark := false, chain := none } else g
    (s.loader.state = .loading → s.req.responses.length < 4 → exec (.dispatch straps) s = .next { s with
      port := { s.port with rxQueue := rest },
      req := { s.req with
        responses := s.req.responses ++ [answer .wrongState q],
        counts := { s.req.counts with
          received := bump s.req.counts.received, wrongState := bump s.req.counts.wrongState } } }) ∧
    (s.loader.state ≠ .loading → ∃ t, exec (.dispatch straps) s = .next t ∧
      t.loader = { state := .loading, station := straps.val, identity := s.loader.identity, imageStatus := .loading,
                   clamped := 0, restarts := bump s.loader.restarts, config := none } ∧
      t.clock = { s.clock with slew := 0, anchor := {}, past := [], pendingSeconds := none } ∧
      t.agr = {} ∧ t.feeds = [] ∧ t.handOffs = [] ∧ t.arrivals = [] ∧ t.arbiter = { frame := s.arbiter.frame } ∧
      (∀ i : Line, t.lines.get i = {
        state := if (s.lines.get i).state = .down then .down else .settling,
        frame := (s.lines.get i).frame.map unmark }) ∧
      (s.PoolSound → t.pool = {}) ∧
      t.pub = {} ∧
      t.port.link = s.port.link ∧ t.port.rx = s.port.rx ∧ t.port.rxQueue = rest ∧ t.port.counts = {} ∧
      (∀ g, s.port.tx = some g → g.kind = .publication →
        t.port.tx = none ∧ t.port.wire = some { frame := g, ending := .abandoned }) ∧
      ((∀ g, s.port.tx = some g → g.kind ≠ .publication) → t.port.tx = s.port.tx ∧ t.port.wire = s.port.wire) ∧
      t.req = { responses := (s.req.responses ++ s.req.queue.map (answer .flushed) ++ [answer .ok q]).take 4 } ∧
      t.pending = s.pending)

/-! ### Requests at the head -/

/-- R101, R170, R171, R175, R176, R199, section 12.5: a STATUS at the head: a block supplies its part, item by item, once, and the
response is formed of the parts when all have come back; FEED_REPORT and PEER_REPORT with their items, the states and statuses
coded as R199's table has them. Nothing else changes. That the response is formed by a command of its own (log 23), the order in
which the items of a report stand (log 44), the four bytes of depths, of record, round, clamped-field, restart and drop counts, of
the Page Pool's free count, held counts and low mark, of the mark tag and of frame and alert numbers (log 25), that the arbiter's counters are reported in LOADING (log 41), that places count from 1 (log 26) and a log
entry's in the report's list (log 43) are the model's. -/
def Obligations.ReportsAnswered : Prop :=
  (let coded := fun {α : Type} (code : α → Nat) (xs : List α) => xs.map code = List.range' 1 xs.length
   coded LineState.code [.down, .settling, .live, .silent, .faulted] ∧ coded EntryState.code [.heard, .paired, .silent] ∧
    coded PubState.code [.normal, .shedding] ∧ coded AsmState.code [.empty, .filling, .complete] ∧
    coded LinkState.code [.down, .up] ∧ ImageStatus.loading.codes = [1, 0] ∧ ImageStatus.accepted.codes = [2, 0] ∧
    ([.badTag, .badLength, .badCrc, .badLine, .sameLines, .duplicateFeed, .duplicateAddress] : List RejectCause).map
        (fun c => (ImageStatus.rejected c).codes) =
      [[3, 1], [3, 2], [3, 3], [3, 4], [3, 5], [3, 6], [3, 7]]) ∧
  ∀ (s : State) (q : Request) (rest : List Request), s.req.queue = q :: rest →
    let answer := fun (res : Result) (data : List Byte) => { s.req with
      queue := rest, parts := [],
      responses := s.req.responses ++ [{ code := q.code, result := res, requester := q.requester, tag := q.tag, data := data }] }
    let open' := s.loader.state = .listen ∨ s.loader.state = .acquire ∨ s.loader.state = .serving
    let refused := { answer .badArgument [] with
      counts := { s.req.counts with badArgument := bump s.req.counts.badArgument } }
    let item := fun (high low : Nat) (v : List Byte) =>
      toBE 1 high ++ toBE 1 low ++ toBE 2 v.length ++ v ++ List.replicate ((4 - v.length % 4) % 4) 0
    let items := fun (high low : Nat) (vs : List (List Byte)) => (vs.zipIdx.map (fun x => item high (low + x.2) x.1)).flatten
    let n4 := fun (n : Nat) => toBE 4 (min n 4294967295)
    let n8 := fun (n : Nat) => toBE 8 (min n 18446744073709551615)
    let i8 := fun (x : Int) =>
      toBE 8 ((max (-9223372036854775808) (min x 9223372036854775807)) % 18446744073709551616).toNat
    let date := fun (d : CageTime) => toBE 6 d.sec ++ toBE 4 (d.ns * 4 + d.quarter)
    let flag := fun (b : Bool) => [if b then (1 : Byte) else 0]
    let part := fun (b : Block) => match b with
      | .loader => items 1 1 [toBE 1 s.loader.state.code, toBE 1 s.loader.station, toBE 6 s.loader.identity.toNat,
          s.loader.imageStatus.codes, if s.loader.state = .loading then [] else n4 s.loader.clamped, n4 s.loader.restarts]
      | .clock => items 2 1 [n8 s.clock.tick, date s.clock.reading, i8 s.clock.freq, i8 s.clock.slew, i8 s.clock.rate,
          toBE 1 s.clock.anchor.state.code, n4 s.clock.anchor.pulses, n4 s.clock.anchor.bad, n4 s.clock.anchor.failed]
      | .agreement => items 3 1 [toBE 1 s.agr.agreement.code, n8 s.agr.spread, i8 s.agr.correction, n4 s.agr.roundCount,
          n4 s.agr.beaconsSent, n4 s.agr.skipped, n4 s.agr.refused, n4 s.agr.conflicts]
      | .line i =>
        let l := s.lines.get i
        items 4 1 ([toBE 1 l.state.code, n4 l.frames, n4 l.fcsErrors, n4 l.cut, n4 l.preService, n4 l.unmatched,
          n4 l.truncated].map (fun v => toBE 1 i.val ++ v))
      | .classifier => []
      | .arbiter => items 5 1 [n4 s.arbiter.misnumbered, n4 s.arbiter.outOfService, n4 s.arbiter.refused, n4 s.arbiter.passedOver]
      | .pool => item 6 1 (n4 s.pool.free) ++
          ((List.finRange 8).map (fun i => item 6 2 (toBE 1 i.val ++ n4 (s.pool.held.get i)))).flatten ++
          items 6 3 [n4 s.pool.low, n4 s.pool.poolRefusals, n4 s.pool.quotaRefusals, n4 s.pool.storeFaults]
      | .publisher => let p := s.pub
        items 7 1 [toBE 1 p.state.code, n4 p.queue.length, toBE 1 p.asmState.code, n4 p.asm.length, flag p.ready.isSome,
          n4 p.drop, n4 p.frameNumber, (match p.mark with | some m => date m.target ++ n4 m.tag | none => []),
          n4 p.counts.queued, n4 p.counts.shed, n4 p.counts.stripped, n4 p.counts.dropped, n4 p.counts.summaries,
          n4 p.counts.framesClosed, n4 p.counts.framesSent, n4 p.counts.framesAbandoned, n4 p.counts.marksFired,
          n4 p.counts.marksLate]
      | .port => let k := s.port.counts
        items 8 1 [toBE 1 s.port.link.code, n4 s.port.rxQueue.length, n4 k.linkLosses, n4 k.rxCut, n4 k.rxDamaged,
          n4 k.rxNotAddressed, n4 k.rxOtherProtocol, n4 k.rxMalformed, n4 k.rxOtherCage, n4 k.ownEchoes, n4 k.rxAccepted,
          n4 k.rxOverruns, n4 k.otherRequests, n4 k.foreignReplies, n4 k.unknownKind, n4 k.untracked]
      | .requests => let r := s.req
        items 9 1 [toBE 4 r.set.toNat, toBE 4 r.enabled.toNat, flag r.gateOpen, flag r.alertPending, n4 r.alertNumber,
          flag r.latch, n4 r.queue.length, n4 r.responses.length, n4 r.counts.received, n4 r.counts.busy, n4 r.counts.wrongState,
          n4 r.counts.badArgument, n4 r.counts.flushed, n4 r.counts.unanswered, n4 r.counts.alertsSent]
    let order : List Block := [.loader, .clock, .agreement, .line 0, .line 1, .line 2, .line 3, .line 4, .line 5, .line 6,
      .line 7, .arbiter, .pool, .publisher, .port, .requests]
    (q.code = 1 →
      (∀ b ∈ order, (∀ p ∈ s.req.parts, p.block ≠ b) → exec (.status (some b)) s = .next { s with
        req := { s.req with parts := s.req.parts ++ [{ block := b, items := part b }] } }) ∧
      (∀ b, b ∉ order ∨ (∃ p ∈ s.req.parts, p.block = b) → exec (.status (some b)) s = .next s) ∧
      ((∃ b ∈ order, ∀ p ∈ s.req.parts, p.block ≠ b) → exec (.status none) s = .next s) ∧
      ∀ given : Block → List Byte,
        (∀ b ∈ order, s.req.parts.find? (fun p => decide (p.block = b)) = some { block := b, items := given b }) →
        s.req.responses.length < 4 → exec (.status none) s = .next { s with req := answer .ok (order.map given).flatten }) ∧
    (q.code = 2 → open' → s.req.responses.length < 4 →
      ((∀ g ∈ s.feeds, g.cfg.feed ≠ natAt q.args 0 2) → exec .feedReport s = .next { s with req := refused }) ∧
      (255 < natAt q.args 0 2 → exec .feedReport s = .next { s with req := refused }) ∧
      (natAt q.args 0 2 ≤ 255 → ∀ pre g post, s.feeds = pre ++ g :: post →
        g.cfg.feed = natAt q.args 0 2 → (∀ x ∈ pre, x.cfg.feed ≠ natAt q.args 0 2) →
        let t := g.table
        let k := t.counts
        let m := t.peer
        let state := if t.high = none then 1 else if t.gaps = [] then 2 else 3
        let gap := fun (x : Gap × Nat) =>
          item 1 3 (toBE 1 (x.2 + 1) ++ n8 x.1.first ++ n8 x.1.last ++ n8 x.1.opened ++ n8 x.1.deadline)
        let entry := fun (x : LogEntry × Nat) =>
          let kind := match x.1.kind with | .localClaim => 1 | .peerClaim => 2 | .lateClaim => 3 | .lost => 4
          item 1 4 (toBE 1 (x.2 + 1) ++ n8 x.1.first ++ n8 x.1.last ++ toBE 1 kind ++ match x.1.winner with
            | some w => toBE 1 w.station ++ toBE 1 w.line ++ date w.date
            | none => List.replicate 12 0)
        exec .feedReport s = .next { s with req := answer .ok (item 1 1 (toBE 1 state) ++
          item 1 2 (match t.high with | some h => toBE 9 h | none => []) ++ (t.gaps.zipIdx.map gap).flatten ++
          ((t.log.reverse.take 16).zipIdx.map entry).flatten ++
          items 2 1 ([k.first, k.fill, k.partialFill, k.late, k.reset, k.takeover, k.duplicate, k.keepalive, k.stale, k.wild,
            k.expired, k.evicted, k.resetGaps, m.claims, m.entered, m.resets, m.wild, m.unrecorded, m.notEarlier, m.yieldsMade,
            m.replaced, m.yieldsApplied, m.yieldsIgnored, m.nonClaims, m.lost, g.damaged, g.stray, g.malformed].map n4)) })) ∧
    (q.code = 3 → open' → s.req.responses.length < 4 →
      let peer := fun (x : Peer × Nat) =>
        let p := x.1
        let k := p.counts
        let at' := toBE 1 (x.2 + 1)
        items 1 1 ([toBE 1 p.station, toBE 6 p.identity.toNat, toBE 1 p.state.code, toBE 1 p.repState, toBE 1 p.repAgreement,
          toBE 1 p.repAnchor, n8 p.repSpread, n8 p.lastBeaconTick, n4 p.lastBeaconNumber,
          (match p.echo with | some e => date e.t1 ++ date e.t2 | none => []), n8 p.deadline,
          (match p.lastPubFrame with | some n => n4 n | none => [])].map (fun v => at' ++ v)) ++
        (p.ring.zipIdx.map (fun y =>
          item 2 1 (at' ++ toBE 1 (y.2 + 1) ++ i8 y.1.offset ++ n8 y.1.delay.toNat ++ n8 y.1.tick))).flatten ++
        items 3 1 ([k.heard, k.missed, k.accepted, k.staleEchoes, k.unknownEchoes, k.delayLow, k.delayHigh, k.identityChanges,
          k.pubFrames, k.missedFrames, k.numberFalls].map (fun n => at' ++ n4 n))
      exec .peerReport s = .next { s with req := answer .ok (s.agr.peers.zipIdx.map peer).flatten })

/-- 00 section 5.6: a counter saturates at 2^32 - 1. R12, R33, R55, R73, R99, R120, R121, R134, R156, R166, R167, R177: a
CLEAR_COUNTS at the head: each block zeroes its counters at an event of its own, once, and keeps the rest of its state, the pool
setting its low mark; the response is formed when every block has zeroed. That it is formed by a command of its own is the model's
(log 23). -/
def Obligations.ClearCountsZeroes : Prop :=
  (∀ n : Nat, bump n = if n < 4294967295 then n + 1 else 4294967295) ∧
  (∀ k n : Nat, bumpBy k n = if n + k ≤ 4294967295 then n + k else 4294967295) ∧
  ∀ (s : State) (q : Request) (rest : List Request), s.req.queue = q :: rest →
    q.code = 4 → s.loader.state = .listen ∨ s.loader.state = .acquire ∨ s.loader.state = .serving →
    let took := fun (b : Block) => ∃ p ∈ s.req.parts, p.block = b
    let req := fun (b : Block) => { s.req with parts := s.req.parts ++ [{ block := b, items := [] }] }
    let order : List Block := [.clock, .agreement, .line 0, .line 1, .line 2, .line 3, .line 4, .line 5, .line 6, .line 7,
      .classifier, .arbiter, .pool, .publisher, .port, .requests]
    (∀ b, b = .loader ∨ took b → exec (.clearCounts (some b)) s = .next s) ∧
    (¬ took .clock → exec (.clearCounts (some .clock)) s = .next { s with
      req := req .clock, clock := { s.clock with anchor := { s.clock.anchor with pulses := 0, bad := 0, failed := 0 } } }) ∧
    (¬ took .agreement → exec (.clearCounts (some .agreement)) s = .next { s with
      req := req .agreement,
      agr := { s.agr with
        beaconsSent := 0, skipped := 0, refused := 0, conflicts := 0,
        peers := s.agr.peers.map (fun p => { p with counts := { p.counts with
          heard := 0, missed := 0, accepted := 0, staleEchoes := 0, unknownEchoes := 0, delayLow := 0, delayHigh := 0,
          identityChanges := 0 } }) } }) ∧
    (∀ i : Line, ¬ took (.line i) → exec (.clearCounts (some (.line i))) s = .next { s with
      req := req (.line i),
      lines := s.lines.set i { s.lines.get i with
        frames := 0, fcsErrors := 0, cut := 0, preService := 0, unmatched := 0, truncated := 0 } }) ∧
    (¬ took .classifier → exec (.clearCounts (some .classifier)) s = .next { s with
      req := req .classifier, feeds := s.feeds.map (fun f => { f with damaged := 0, stray := 0, malformed := 0 }) }) ∧
    (¬ took .arbiter → exec (.clearCounts (some .arbiter)) s = .next { s with
      req := req .arbiter,
      arbiter := { s.arbiter with misnumbered := 0, outOfService := 0, refused := 0, passedOver := 0 },
      feeds := s.feeds.map (fun f => { f with table := { f.table with counts := {}, peer := {} } }) }) ∧
    (¬ took .pool → exec (.clearCounts (some .pool)) s = .next { s with
      req := req .pool,
      pool := { s.pool with poolRefusals := 0, quotaRefusals := 0, storeFaults := 0, low := s.pool.free } }) ∧
    (¬ took .publisher → exec (.clearCounts (some .publisher)) s = .next { s with
      req := req .publisher, pub := { s.pub with counts := {} } }) ∧
    (¬ took .port → exec (.clearCounts (some .port)) s = .next { s with
      req := req .port, port := { s.port with counts := {} },
      agr := { s.agr with peers := s.agr.peers.map (fun p => { p with counts := { p.counts with
        pubFrames := 0, missedFrames := 0, numberFalls := 0 } }) } }) ∧
    (¬ took .requests → exec (.clearCounts (some .requests)) s = .next { s with
      req := { req .requests with counts := {} } }) ∧
    ((∃ b ∈ order, ¬ took b) → exec (.clearCounts none) s = .next s) ∧
    ((∀ b ∈ order, took b) → s.req.responses.length < 4 → exec (.clearCounts none) s = .next { s with
      req := { s.req with
        queue := rest, parts := [],
        responses := s.req.responses ++
          [{ code := q.code, result := .ok, requester := q.requester, tag := q.tag, data := [] }] } })

/-- R178: SET_SECONDS at the head: out of range, the latch set, or handed to the clock for its next boundary. -/
def Obligations.SetSecondsHandsOver : Prop :=
  ∀ (s : State) (q : Request) (rest : List Request), s.req.queue = q :: rest → s.req.responses.length < 4 →
    q.code = 5 → s.loader.state = .listen ∨ s.loader.state = .acquire ∨ s.loader.state = .serving →
    let v := natAt q.args 0 8
    let answer := fun (res : Result) => { s.req with
      queue := rest, parts := [],
      responses := s.req.responses ++ [{ code := q.code, result := res, requester := q.requester, tag := q.tag, data := [] }] }
    (281474976710655 < v → exec .setSeconds s = .next { s with
      req := { answer .badArgument with counts := { s.req.counts with badArgument := bump s.req.counts.badArgument } } }) ∧
    (v ≤ 281474976710655 → s.req.latch = true → exec .setSeconds s = .next { s with req := answer .alreadySet }) ∧
    (v ≤ 281474976710655 → s.req.latch = false → s.clock.pendingSeconds = none → exec .setSeconds s = .next { s with
      clock := { s.clock with pendingSeconds := some { value := v, due := false } } })

/-- R180 to R182, R184: a raise, SET_ALERT_ENABLES and ACK_ALERTS: the set, the new set, and the gate's test after each; and the
bit of each condition in a set (R196). That a pending ALERT frame is kept over the opening of the gate is the model's (log 42). -/
def Obligations.AlertsAndTheirGate : Prop :=
  let tested := fun (r : ReqHandler) =>
    if r.gateOpen = true ∧ r.set &&& r.enabled ≠ 0 then { r with gateOpen := false, alertPending := true } else r
  (let named : List Condition := [.lineDown, .lineFaulted, .lineSilent, .gapLost, .shedding, .recordsDropped, .poolExhausted,
    .storeFault, .peerGone, .peerTableFull, .spread, .anchorLost, .stationConflict, .segmentRxOverrun, .configClamped]
   named.map Condition.bit = (List.range 15).map (BitVec.twoPow 15)) ∧
  (∀ (r : ReqHandler) (c : Condition),
    (r.set &&& c.bit = 0 → r.raise c = tested { r with set := r.set ||| c.bit, fresh := r.fresh ||| c.bit }) ∧
    (r.set &&& c.bit ≠ 0 → r.raise c = tested r)) ∧
  ∀ (s : State) (q : Request) (rest : List Request), s.req.queue = q :: rest → s.req.responses.length < 4 →
    s.loader.state = .listen ∨ s.loader.state = .acquire ∨ s.loader.state = .serving →
    let n := natAt q.args 0 4
    let named := BitVec.ofNat 15 n
    let answer := fun (r : ReqHandler) (res : Result) (data : List Byte) => { r with
      queue := rest, parts := [],
      responses := s.req.responses ++ [{ code := q.code, result := res, requester := q.requester, tag := q.tag, data := data }] }
    let refused := { answer s.req .badArgument [] with
      counts := { s.req.counts with badArgument := bump s.req.counts.badArgument } }
    (q.code = 8 → n < 32768 → exec .setAlertEnables s = .next { s with
      req := answer (tested { s.req with enabled := named }) .ok (toBE 4 n) }) ∧
    (q.code = 8 → 32768 ≤ n → exec .setAlertEnables s = .next { s with req := refused }) ∧
    (q.code = 9 → n < 32768 → exec .ackAlerts s = .next { s with
      req := answer (tested { s.req with
        set := s.req.set &&& ~~~ named, fresh := s.req.fresh &&& ~~~ named, gateOpen := true }) .ok
        (toBE 4 (s.req.set &&& ~~~ named).toNat) }) ∧
    (q.code = 9 → 32768 ≤ n → exec .ackAlerts s = .next { s with req := refused })

/-- R170 to R173: a request of an unknown code, and one its state does not permit: the head leaves, counted, and nothing else
changes. And an answer that meets a full response queue, of any request carried out or refused: the request has its effect, or its
refusal, just as with the response queue empty, and of a response formed there is nothing but one unanswered more; a RESTART in
LOADING is such a one. -/
def Obligations.RequestsRefused : Prop :=
  (∀ (c : Instr) (s : State), 4 ≤ s.req.responses.length →
    c = .feedReport ∨ c = .peerReport ∨ c = .status none ∨ (∃ b, c = .clearCounts b) ∨ c = .setSeconds ∨ c = .secondsWrite ∨
      c = .mark ∨ c = .cancelMark ∨ c = .setAlertEnables ∨ c = .ackAlerts ∨ c = .unknownRequest →
    ∃ t, exec c { s with req := { s.req with responses := [] } } = .next t ∧
      exec c s = .next { t with req := { t.req with
        responses := s.req.responses,
        counts := { t.req.counts with unanswered :=
          if t.req.responses = [] then t.req.counts.unanswered else bump t.req.counts.unanswered } } }) ∧
  (∀ (straps : Fin 16) (s : State) (f : RxFrame) (rest : List RxFrame) (target : Nat) (q : Request),
    s.port.rxQueue = f :: rest → s.agr.inbox = none → readFrame f.bytes = .request target q →
    target = s.loader.station ∨ target = 255 → q.code = 10 → s.loader.state = .loading → 4 ≤ s.req.responses.length →
    exec (.dispatch straps) s = .next { s with
      port := { s.port with rxQueue := rest },
      req := { s.req with counts := { s.req.counts with
        received := bump s.req.counts.received, wrongState := bump s.req.counts.wrongState,
        unanswered := bump s.req.counts.unanswered } } }) ∧
  ∀ (s : State) (q : Request) (rest : List Request), s.req.queue = q :: rest →
    let wrong : ReqCounts := { s.req.counts with wrongState := bump s.req.counts.wrongState }
    let bad : ReqCounts := { s.req.counts with badArgument := bump s.req.counts.badArgument }
    let answer := fun (res : Result) (k : ReqCounts) => { s.req with
      queue := rest, parts := [], counts := k,
      responses := s.req.responses ++ [{ code := q.code, result := res, requester := q.requester, tag := q.tag, data := [] }] }
    let lost := fun (k : ReqCounts) => { s.req with
      queue := rest, parts := [], counts := { k with unanswered := bump s.req.counts.unanswered } }
    let shut := s.loader.state = .loading ∨ s.loader.state = .halted ∨ s.loader.state = .conflict
    (∀ c : Instr, (c = .feedReport ∧ q.code = 2) ∨ (c = .peerReport ∧ q.code = 3) ∨ (∃ b, c = .clearCounts b ∧ q.code = 4) ∨
        (c = .setSeconds ∧ q.code = 5) ∨ (c = .mark ∧ q.code = 6) ∨ (c = .cancelMark ∧ q.code = 7) ∨
        (c = .setAlertEnables ∧ q.code = 8) ∨ (c = .ackAlerts ∧ q.code = 9) →
      shut ∨ ((c = .mark ∨ c = .cancelMark) ∧ (s.loader.state = .listen ∨ s.loader.state = .acquire)) →
      (s.req.responses.length < 4 → exec c s = .next { s with req := answer .wrongState wrong }) ∧
      (4 ≤ s.req.responses.length → exec c s = .next { s with req := lost wrong })) ∧
    (q.code = 0 ∨ 10 < q.code →
      (s.req.responses.length < 4 → exec .unknownRequest s = .next { s with req := answer .badArgument bad }) ∧
      (4 ≤ s.req.responses.length → exec .unknownRequest s = .next { s with req := lost bad })) ∧
    (q.code = 1 → (∀ b ∈ statusBlocks, ∃ p ∈ s.req.parts, p.block = b) → 4 ≤ s.req.responses.length →
      exec (.status none) s = .next { s with req := lost s.req.counts })

/-! ### The Loader -/

/-- R188, R190, R192: the end of the image read in LOADING: a refused image puts the station in HALTED with every condition
enabled; an accepted one comes into force in every block, and the station is in LISTEN. -/
def Obligations.ImageReadDecides : Prop :=
  ∀ (flash : List Byte) (s : State), s.loader.state = .loading →
    let tested := fun (r : ReqHandler) =>
      if r.gateOpen = true ∧ r.set &&& r.enabled ≠ 0 then { r with gateOpen := false, alertPending := true } else r
    (∀ cause, imageFault flash = some cause → exec (.imageReadDone flash) s = .next { s with
      loader := { s.loader with state := .halted, imageStatus := .rejected cause, clamped := 0 },
      req := tested { s.req with enabled := BitVec.allOnes 15 } }) ∧
    (imageFault flash = none →
      let n := natAt (readFlash flash 112) 108 2
      let a := readImage (readFlash flash (116 + 40 * n))
      let enabled := tested { s.req with enabled := a.config.enables }
      ∃ lines,
        (∀ i : Line, lines.get i =
          if (s.lines.get i).state = .settling then
            { s.lines.get i with settleTimer := some (s.clock.tick + (a.config.lines.get i).settleMs * 250000) }
          else s.lines.get i) ∧
        exec (.imageReadDone flash) s = .next { s with
          loader := { s.loader with
            state := .listen, imageStatus := .accepted, clamped := a.clamped, config := some a.config },
          clock := { s.clock with anchor :=
            if a.config.anchorEnabled = true then
              { s.clock.anchor with state := .seeking, window := some (s.clock.tick + 275000000) }
            else { s.clock.anchor with state := .none } },
          agr := { s.agr with
            beaconNumber := 0, roundCount := 0,
            beaconTimer := some (s.clock.tick + a.config.beaconMs * 250000),
            roundTimer := some (s.clock.tick + 16 * (a.config.beaconMs * 250000)),
            beaconDue := if s.port.link = .up then true else s.agr.beaconDue,
            skipped := if s.port.link = .up then s.agr.skipped else bump s.agr.skipped },
          lines := lines,
          feeds := a.feeds.map (fun g => { cfg := g }),
          req := if 0 < a.clamped then enabled.raise .configClamped else enabled })

/-- R161, R188, R189, section 12.6: the tests of an image in their order, a feed count above 32 among them; the feed map that a good
one gives, every field of an entry; the configuration that it gives, every field; and the clamped-field count, one for each field
clamped, each choice replaced, and the set of enables where it names no condition. -/
def Obligations.ImageTestsInOrder : Prop :=
  let field := fun (bs : List Byte) (off k default lo hi : Nat) =>
    if natAt bs off k = 256 ^ k - 1 then default else max lo (min (natAt bs off k) hi)
  let clamps := fun (bs : List Byte) (off k lo hi : Nat) =>
    if natAt bs off k = 256 ^ k - 1 ∨ (lo ≤ natAt bs off k ∧ natAt bs off k ≤ hi) then 0 else 1
  (∀ flash : List Byte,
    let head := readFlash flash 112
    (head.take 4 ≠ [0x4C, 0x54, 0x38, 0x31] → imageFault flash = some .badTag) ∧
    (head.take 4 = [0x4C, 0x54, 0x38, 0x31] → 32 < natAt head 108 2 → imageFault flash = some .badLength)) ∧
  (∀ (img rest : List Byte) (n : Nat), n ≤ 32 → img.length = 116 + 40 * n → natAt img 108 2 = n →
    let e := fun (k : Nat) => slice img (112 + 40 * k) 40
    let tag := img.take 4 = [0x4C, 0x54, 0x38, 0x31]
    let size := natAt img 4 4 = 116 + 40 * n
    let crc := natAt img (112 + 40 * n) 4 = (crc32 (img.take (112 + 40 * n))).toNat
    let lines := ∀ k, k < n → natAt (e k) 1 1 ≤ 7 ∧ (natAt (e k) 2 1 ≤ 7 ∨ natAt (e k) 2 1 = 255)
    let apart := ∀ k, k < n → natAt (e k) 1 1 ≠ natAt (e k) 2 1
    let numbers := ∀ j k, j < k → k < n → natAt (e j) 0 1 ≠ natAt (e k) 0 1
    let groups := ∀ j k, j < k → k < n → natAt (e j) 8 6 ≠ natAt (e k) 8 6
    let fault := imageFault (img ++ rest)
    (¬ tag → fault = some .badTag) ∧
    (tag → ¬ size → fault = some .badLength) ∧
    (tag → size → ¬ crc → fault = some .badCrc) ∧
    (tag → size → crc → ¬ lines → fault = some .badLine) ∧
    (tag → size → crc → lines →
      (¬ apart → fault = some .sameLines) ∧
      (apart → ¬ numbers → fault = some .duplicateFeed) ∧
      (apart → numbers → ¬ groups → fault = some .duplicateAddress) ∧
      (apart → numbers → groups → fault = none ∧ readFlash (img ++ rest) (116 + 40 * n) = img ∧
        (readImage img).feeds.length = n ∧
        ∀ k, k < n →
          let x := e k
          ∃ g, (readImage img).feeds[k]? = some g ∧ g.feed = natAt x 0 1 ∧ g.group = natAt x 8 4 ∧
            g.port = natAt x 12 2 ∧ g.aLine.val = natAt x 1 1 ∧
            (natAt x 2 1 = 255 → g.bLine = none) ∧
            (natAt x 2 1 ≠ 255 → g.bLine.map Fin.val = some (natAt x 2 1)) ∧
            g.seqWidth = (if natAt x 3 1 = 4 then 4 else 8) ∧
            g.order = (if natAt x 4 1 = 2 then .little else .big) ∧
            g.carriage = (if natAt x 5 1 = 1 then .header else if natAt x 5 1 = 2 then .full else .none) ∧
            g.seqOffset = field x 6 1 0 0 63 ∧
            g.countOffset = (if natAt x 7 1 = 255 then none else some (min (natAt x 7 1) 63)) ∧
            g.gapHoldUs = field x 16 4 2000 10 1000000 ∧
            g.jumpLimit = field x 20 8 100000 1 4294967295 ∧ g.rewind = field x 28 8 1000000 1 1099511627776))) ∧
  ∀ img : List Byte,
    let c := (readImage img).config
    let e := fun (k : Nat) => slice img (112 + 40 * k) 40
    let one := fun (p : Prop) [Decidable p] => if p then 1 else 0
    c.cageNumber = natAt img 8 2 ∧ c.typeCode = (if natAt img 10 2 < 1536 then 0x88B5 else natAt img 10 2) ∧
      c.group = BitVec.ofNat 48 (natAt img 12 6) ∧ c.beaconMs = field img 18 2 4 1 100 ∧
      c.agreeNs = field img 20 4 200 10 100000 ∧ c.maxSlew = field img 24 4 50000 1000 200000 ∧
      c.minDelayNs = field img 28 4 50 0 10000 ∧ c.maxDelayUs = field img 32 2 100 1 1000 ∧
      (c.anchorEnabled = true ↔ natAt img 34 1 ≠ 0) ∧ c.captureUs = field img 36 2 50 1 1000 ∧
      c.batchUs = field img 38 2 4 1 50 ∧
      c.enables = (if natAt img 40 4 = 4294967295 then BitVec.allOnes 15 else BitVec.ofNat 15 (natAt img 40 4)) ∧
      (∀ i : Line, c.lines.get i = {
        trim := field img (44 + 8 * i.val) 2 0 0 16383, settleMs := field img (46 + 8 * i.val) 2 100 1 10000,
        settleLimit := field img (48 + 8 * i.val) 2 0 0 255, silenceMs := field img (50 + 8 * i.val) 2 1000 1 60000 }) ∧
      (readImage img).clamped =
        one (natAt img 10 2 < 1536) + clamps img 18 2 1 100 + clamps img 20 4 10 100000 + clamps img 24 4 1000 200000 +
          clamps img 28 4 0 10000 + clamps img 32 2 1 1000 + clamps img 36 2 1 1000 + clamps img 38 2 1 50 +
          one (32768 ≤ natAt img 40 4 ∧ natAt img 40 4 ≠ 4294967295) +
          ((List.range 8).map (fun i => clamps img (44 + 8 * i) 2 0 16383 + clamps img (46 + 8 * i) 2 1 10000 +
            clamps img (48 + 8 * i) 2 0 255 + clamps img (50 + 8 * i) 2 1 60000)).sum +
          ((List.range (natAt img 108 2)).map (fun k =>
            clamps (e k) 6 1 0 63 + one (natAt (e k) 3 1 ≠ 4 ∧ natAt (e k) 3 1 ≠ 8) +
            one (natAt (e k) 4 1 ≠ 1 ∧ natAt (e k) 4 1 ≠ 2) + one (2 < natAt (e k) 5 1) +
            clamps (e k) 7 1 0 63 + clamps (e k) 16 4 10 1000000 + clamps (e k) 20 8 1 4294967295 +
            clamps (e k) 28 8 1 1099511627776)).sum

/-! ### Sound states -/

/-- R14, R18, R33, R56, R58, R74, R121, R135, R157, R168, R185 to R187: power-on, and that the state it gives is sound in every
sense of the invariants below. The reset's strap level and identity are the model's choice (log 3). -/
def Obligations.PowerOnIsSound : Prop :=
  (∀ (straps : Fin 16) (s : State), exec (.powerOn straps) s = .next {
    loader := { state := .loading, station := straps.val, identity := s.loader.identity, imageStatus := .loading,
                clamped := 0, restarts := 0, config := none },
    clock := {}, agr := {}, lines := PerLine.all {}, handOffs := [], arrivals := [], arbiter := {}, feeds := [], pool := {},
    pub := {}, port := {}, req := {}, pending := s.pending }) ∧
  (∀ straps : Fin 16, exec (.powerOn straps) State.reset =
    .next { State.reset with loader := { State.reset.loader with station := straps.val } }) ∧
  State.reset.WithinLimits ∧ State.reset.PoolSound ∧ State.reset.clock.InRange ∧ State.reset.StateSound ∧
    State.reset.ServiceSound ∧ State.reset.LinesSound ∧ State.reset.req.GateSound ∧ State.reset.req.PartsSound ∧
    State.reset.TablesSound ∧ State.reset.PeersSound

/-- R36, R44, R137, R145, R147, R163, R169, R172, R188 and R174, R175, R177, R181, R182: every step keeps the queues, rings and
lists within their limits, keeps the gate shut over a condition both set and enabled, and keeps the parts taken those of the
request at the head, one to a block. -/
def Obligations.LimitsAndGateKept : Prop :=
  ∀ s t : State, step s = .next t →
    (s.WithinLimits → t.WithinLimits) ∧ (s.req.GateSound → t.req.GateSound) ∧ (s.req.PartsSound → t.req.PartsSound)

/-- R16, R17, R19, R20, R178; R1 to R4, R13; R37, R40: every step keeps the clock's values in range with A the adjust of r,
keeps each line's timers to its state, and keeps one peer entry for each number but the station's own. -/
def Obligations.ClockLinesPeersKept : Prop :=
  ∀ s t : State, step s = .next t →
    (s.clock.InRange → t.clock.InRange) ∧ (s.LinesSound → t.LinesSound) ∧ (s.PeersSound → t.PeersSound)

/-- R123, R124, R128: every step keeps the pages accounted for: free plus held is 4,096, each line's held count is the pages of
its chains wherever they travel, and no line exceeds its quota. -/
def Obligations.PagesAccountedFor : Prop :=
  ∀ s t : State, s.PoolSound → step s = .next t → t.PoolSound

/-- R34, R39, R47, R53, R56, R58, R186, R188, R192, R193: every step keeps what the station state fixes: the image in force and
its status, the feed map, the beacon and round timers and the peer table. -/
def Obligations.StateCorrespondenceKept : Prop :=
  ∀ s t : State, s.StateSound → step s = .next t → t.StateSound

/-- R9, R11, R72, R100, R141, R147, R148, R157: every step keeps a station outside SERVING empty of service, the records handed over
and not yet taken among it (log 11), and keeps the assembly state to the frame's contents, the batch timer and the ready slot. -/
def Obligations.ServiceOnlyInServing : Prop :=
  ∀ s t : State, s.ServiceSound → step s = .next t → t.ServiceSound

/-- R75 to R78, R85, R92 to R95: every step keeps every table sound: gaps in order and below H, at most 8; entries below H, at
most 64, with a winner unless LOST; nothing in an UNSYNCED table; and no sequence in two range log entries, nor in both a gap and
an entry. -/
def Obligations.TablesStaySound : Prop :=
  ∀ s t : State, s.TablesSound → step s = .next t → t.TablesSound

/-- R186: the events that change the station state, over every command: no other changes it, and none changes it otherwise. -/
def Obligations.StationStateChanges : Prop :=
  ∀ (c : Instr) (s t : State), s.StateSound → exec c s = .next t → t.loader.state ≠ s.loader.state →
    let a := s.loader.state
    let b := t.loader.state
    (∃ n, c = .powerOn n ∧ b = .loading) ∨
    (∃ f, c = .imageReadDone f ∧ a = .loading ∧
      ((imageFault f = none ∧ b = .listen) ∨ (imageFault f ≠ none ∧ b = .halted))) ∨
    (c = .roundEnd ∧ a = .listen ∧ b = .acquire ∧ 3 ≤ t.agr.roundCount) ∨
    ((c = .roundEnd ∨ c = .clockStep) ∧ a = .acquire ∧ b = .serving) ∨
    (∃ x, c = .beaconTaken ∧ s.agr.inbox = some x ∧ x.beacon.station = s.loader.station ∧
      x.beacon.identity < s.loader.identity ∧ (a = .listen ∨ a = .acquire ∨ a = .serving) ∧ b = .conflict) ∨
    ∃ n f q target rest, c = .dispatch n ∧ s.port.rxQueue = f :: rest ∧ readFrame f.bytes = .request target q ∧ q.code = 10 ∧
      a ≠ .loading ∧ b = .loading

/-! ### Frames sent are frames read -/

/-- R8, R160 to R163, R165, R196, sections 9.3, 12.2 and 12.3: the bytes of a frame of any kind about its content: the common header
with the values in force, zeros to 64 bytes, the frame check sequence. Such a frame passes the filter of a peer with the same image,
which queues it, and is an own echo at its sender. And a beacon built by a station passes the frame check, and a peer's port reads
back every field of it. -/
def Obligations.BeaconsAreReadBack : Prop :=
  (∀ (s : State) (k : FrameKind) (station : Nat) (identity : Identity) (content : List Byte),
    let cage := match s.loader.config with | some c => c.cageNumber | none => 0
    let type := match s.loader.config with | some c => c.typeCode | none => 0x88B5
    let group := match s.loader.config with | some c => c.group | none => BitVec.allOnes 48
    let kind := match k with | .beacon => 1 | .publication => 2 | .response => 4 | .alert => 5
    let body := toBE 6 group.toNat ++ toBE 6 s.loader.identity.toNat ++ toBE 2 type ++ toBE 1 kind ++ toBE 1 station ++
      toBE 2 cage ++ toBE 6 identity.toNat ++ toBE 2 content.length ++ content
    let padded := body ++ List.replicate (60 - body.length) 0
    s.buildFrame k station identity content = { kind := k, bytes := padded ++ fcsBytes (crc32 padded) }) ∧
  (∀ (s p : State) (k : FrameKind) (station : Nat) (content : List Byte) (r : RxInFlight),
    s.typeCode < 65536 → s.typeCode ≠ 0x8100 → s.typeCode ≠ 0x88A8 →
    (∀ c, s.loader.config = some c → c.cageNumber < 65536) → content.length ≤ 9186 →
    p.loader.config = s.loader.config → p.loader.identity ≠ s.loader.identity →
    let f := s.buildFrame k station s.loader.identity content
    (p.port.rx = some r → p.port.rxQueue.length < 64 → exec (.segmentFrameReceived f.bytes false) p = .next { p with
      port := { p.port with
        rx := none,
        rxQueue := p.port.rxQueue ++ [{ bytes := f.bytes.take (f.bytes.length - 4), date := r.date, stale := r.stale }],
        counts := { p.port.counts with rxAccepted := bump p.port.counts.rxAccepted } } }) ∧
    (s.port.rx = some r → exec (.segmentFrameReceived f.bytes false) s = .next { s with
      port := { s.port with rx := none, counts := { s.port.counts with ownEchoes := bump s.port.counts.ownEchoes } } })) ∧
  ∀ (s : State) (b : Beacon),
    s.typeCode < 65536 → s.typeCode ≠ 0x8100 → s.typeCode ≠ 0x88A8 →
    b.station < 256 → b.state < 256 → b.agreement < 256 → b.anchor < 256 → b.spread < 4294967296 → b.number < 4294967296 →
    b.echoes.length ≤ 15 →
    (∀ d ∈ b.departure :: b.echoes.flatMap (fun e => [e.t1, e.t2]),
      d.sec < 281474976710656 ∧ d.ns < 1000000000 ∧ d.quarter < 4) →
    (∀ e ∈ b.echoes, e.station < 256) →
    let f := s.buildFrame .beacon b.station b.identity b.encode
    frameSound f.bytes false = true ∧ readFrame (f.bytes.take (f.bytes.length - 4)) = .beacon b

/-- R8, R104, R132, R140, R160, R165, R196, R197, section 12.4: a publication frame of up to 16 records within 8,960 bytes passes
the frame check, and a peer's port reads back its number and walks each of its records whole. And a record of each kind read back
field by field, every field of section 12.4 in its range at its offset, the zeros among them; with what the arbiter of a peer makes
of it: the feed and the winner it names, and that it is not refused. That the count and the overflow of an ARRIVAL record that is
no claim are not tested is the model's (log 22). First, how numbers and cage times stand in bytes (R196). -/
def Obligations.PublicationsAreReadBack : Prop :=
  (∀ (bs : List Byte) (off k n : Nat),
    toBE 0 n = [] ∧ toBE (k + 1) n = BitVec.ofNat 8 (n / 256 ^ k) :: toBE k n ∧
    natAt bs off 0 = 0 ∧ (∀ b, bs[off + k]? = some b → natAt bs off (k + 1) = natAt bs off k * 256 + b.toNat) ∧
    (timeAt bs off).sec = natAt bs off 6 ∧ (timeAt bs off).quarter < 4 ∧
    (timeAt bs off).ns * 4 + (timeAt bs off).quarter = natAt bs (off + 6) 4) ∧
  (∀ (s : State) (r : ReadyFrame) (us : List Upset),
    s.typeCode < 65536 → s.typeCode ≠ 0x8100 → s.typeCode ≠ 0x88A8 →
    r.station < 256 → r.number < 4294967296 → r.records.length ≤ 16 →
    (r.records.map Record.encodedLength).sum ≤ 8960 →
    let f := s.buildFrame .publication r.station r.identity (r.content us)
    frameSound f.bytes false = true ∧
      readFrame (f.bytes.take (f.bytes.length - 4)) =
        .publication r.station r.identity r.number (r.records.zipIdx.map (fun x => x.1.readOut us x.2))) ∧
  let timed := fun (d : CageTime) => d.sec < 281474976710656 ∧ d.ns < 1000000000 ∧ d.quarter < 4
  let zero := fun (x : List Byte) (off n : Nat) => slice x off n = List.replicate n 0
  let named := fun {α : Type} (names : List α) (code : Nat) (name : α) => 1 ≤ code ∧ names[code - 1]? = some name
  let fails : List FailCause := [.fcs, .short, .long, .codeError]
  let malformed : List MalformedCause := [.badLength, .shortPayload, .rangeOverflow]
  let losses : List LossCause := [.expired, .evicted, .byReset]
  let bit := fun (b : Bool) (n : Nat) => if b = true then n else 0
  (∀ (a : ArrivalRec) (payload : List Byte) (q : Nat), payload.length ≤ 1536 → timed a.date → (∀ f, a.feed = some f → f < 256) →
    a.first < 18446744073709551616 → a.count < 65536 →
    (a.verdict.isClaim = true → 1 ≤ a.count ∧ a.first + a.count ≤ 18446744073709551616) →
    let x := (Record.arrival a).encode payload
    let codes : List Verdict := [.first, .fill, .partialFill, .late, .reset, .takeover, .duplicate, .keepalive, .stale, .wild,
      .stray, .malformed, .damaged]
    natAt x 0 1 = 1 ∧ named codes (natAt x 1 1) a.verdict ∧ natAt x 2 2 = x.length ∧
      x.length = 64 + (payload.length + 7) / 8 * 8 ∧ natAt x 4 1 = a.feed.getD 0 ∧
      natAt x 5 1 = bit a.feed.isNone 1 + bit a.truncated 2 + bit a.payloadShed 4 + bit a.payloadFault 8 ∧
      natAt x 6 1 = a.line.val ∧ (∀ c, a.failCause = some c → named fails (natAt x 7 1) c) ∧
      (∀ c, a.failCause = none → a.malformedCause = some c → named malformed (natAt x 7 1) c) ∧
      (a.failCause = none → a.malformedCause = none → natAt x 7 1 = 0) ∧
      natAt x 8 8 = a.first ∧ natAt x 16 2 = a.count ∧ (a.length < 65536 → natAt x 18 2 = a.length) ∧
      (a.captured < 65536 → natAt x 20 2 = a.captured) ∧ natAt x 22 2 = payload.length ∧ timeAt x 24 = a.date ∧
      (∀ n, a.lead = some n → n < 4294967296 → natAt x 34 4 = n) ∧ (a.lead = none → zero x 34 4) ∧
      (∀ w, a.displaced = some w → w.station < 256 → w.line < 256 → timed w.date →
        natAt x 38 1 = w.station ∧ natAt x 39 1 = w.line ∧ timeAt x 40 = w.date) ∧
      (a.displaced = none → zero x 38 12) ∧ zero x 50 14 ∧ slice x 64 payload.length = payload ∧
      zero x (64 + payload.length) ((payload.length + 7) / 8 * 8 - payload.length) ∧
      recordFeed x = a.feed ∧ claimWinner x q = { station := q, line := a.line.val, date := a.date } ∧ refusedRecord x q = false) ∧
  (∀ (feed first count : Nat) (w : Winner) (line : Nat) (d : CageTime) (q : Nat), feed < 256 → 1 ≤ count → count < 65536 →
    first + count ≤ 18446744073709551616 → w.station ≤ 15 → w.line ≤ 7 → timed w.date → line ≤ 7 → timed d →
    let x := (Record.yielded feed first count w line d).encode []
    natAt x 0 1 = 2 ∧ zero x 1 1 ∧ natAt x 2 2 = x.length ∧ x.length = 48 ∧ natAt x 4 1 = feed ∧ natAt x 5 1 = w.station ∧
      natAt x 6 1 = w.line ∧ natAt x 7 1 = line ∧ natAt x 8 8 = first ∧ natAt x 16 2 = count ∧ zero x 18 2 ∧
      timeAt x 20 = w.date ∧ timeAt x 30 = d ∧ zero x 40 8 ∧ recordFeed x = some feed ∧ yieldWinner x = w ∧ (refusedRecord x q = true ↔ w.station = q)) ∧
  (∀ (feed first count : Nat) (cause : LossCause) (d : CageTime) (q : Nat), feed < 256 → timed d →
    first < 18446744073709551616 → count < 4294967296 →
    let x := (Record.lost feed first count cause d).encode []
    natAt x 0 1 = 3 ∧ named losses (natAt x 1 1) cause ∧ natAt x 2 2 = x.length ∧ x.length = 32 ∧ natAt x 4 1 = feed ∧
      zero x 5 3 ∧ natAt x 8 8 = first ∧ natAt x 16 4 = count ∧ timeAt x 20 = d ∧ zero x 30 2 ∧ recordFeed x = some feed ∧ refusedRecord x q = false) ∧
  (∀ (feed : Nat) (c : ShedCounts) (q : Nat), (∀ p, c.dates = some p → timed p.1 ∧ timed p.2) →
    let x := (Record.summary feed c).encode []
    natAt x 0 1 = 4 ∧ zero x 1 1 ∧ natAt x 2 2 = x.length ∧ x.length = 48 ∧ (feed < 256 → natAt x 4 1 = feed) ∧ zero x 5 3 ∧
      (c.duplicate < 4294967296 → natAt x 8 4 = c.duplicate) ∧ (c.keepalive < 4294967296 → natAt x 12 4 = c.keepalive) ∧
      (c.stale < 4294967296 → natAt x 16 4 = c.stale) ∧ (c.stray < 4294967296 → natAt x 20 4 = c.stray) ∧
      (∀ p, c.dates = some p → timeAt x 24 = p.1 ∧ timeAt x 34 = p.2) ∧ (c.dates = none → zero x 24 20) ∧ zero x 44 4 ∧
      recordFeed x = none ∧ refusedRecord x q = false) ∧
  ∀ (tag : Nat) (target firing : CageTime) (late : Bool) (q : Nat), timed target → timed firing →
    let x := (Record.mark tag target firing late).encode []
    natAt x 0 1 = 5 ∧ natAt x 1 1 = bit late 1 ∧ natAt x 2 2 = x.length ∧ x.length = 32 ∧
      (tag < 4294967296 → natAt x 4 4 = tag) ∧ timeAt x 8 = target ∧ timeAt x 18 = firing ∧ zero x 28 4 ∧ recordFeed x = none ∧ refusedRecord x q = false
end

