-- ==== Sys2Proof/Laws/Fields.lean ====
section
/-! SUPPORT. The fields of frames: lengths of what is encoded, and numbers read back from their bytes (R196). -/

namespace Sys2Proof.Machine

set_option Elab.async false

@[simp] theorem toBE_length (k n : Nat) : (toBE k n).length = k := by
  induction k generalizing n with
  | zero => rfl
  | succ k ih => simp [toBE, ih]

@[simp] theorem zeros_length (n : Nat) : (zeros n).length = n := by simp [zeros]

@[simp] theorem toBESat_length (k n : Nat) : (toBESat k n).length = k := by simp [toBESat]

@[simp] theorem timeBytes_length (t : CageTime) : (timeBytes t).length = 10 := by simp [timeBytes]

@[simp] theorem fcsBytes_length (c : BitVec 32) : (fcsBytes c).length = 4 := by simp [fcsBytes]

@[simp] theorem setBytes_length (c : CondSet) : (setBytes c).length = 4 := by simp [setBytes]

theorem padTo_length (m : Nat) (bs : List Byte) : (padTo m bs).length = bs.length + (m - bs.length % m) % m := by
  simp [padTo]

theorem slice_length (bs : List Byte) (off n : Nat) (h : off + n ≤ bs.length) : (slice bs off n).length = n := by
  simp [slice]; omega

/-- A list is cut where its first part ends. -/
theorem slice_append_left (as bs : List Byte) (n : Nat) (h : as.length = n) : slice (as ++ bs) 0 n = as := by
  simp [slice, ← h]

/-- A slice past the first part is a slice of the second. -/
theorem slice_append_right (as bs : List Byte) (off n : Nat) (h : as.length ≤ off) :
    slice (as ++ bs) off n = slice bs (off - as.length) n := by
  simp [slice, List.drop_append, List.drop_eq_nil_of_le h]

theorem fromBE_foldl (bs : List Byte) (n : Nat) :
    bs.foldl (fun n b => n * 256 + b.toNat) n = n * 256 ^ bs.length + fromBE bs := by
  induction bs generalizing n with
  | nil => simp [fromBE]
  | cons b bs ih =>
    simp only [fromBE, List.foldl_cons, List.length_cons]
    rw [ih, ih (0 * 256 + b.toNat)]
    ring

theorem fromBE_cons (b : Byte) (bs : List Byte) : fromBE (b :: bs) = b.toNat * 256 ^ bs.length + fromBE bs := by
  have h := fromBE_foldl bs (0 * 256 + b.toNat)
  simpa [fromBE] using h

/-- A number within `k` bytes is read back from them (R196). -/
theorem fromBE_toBE (k n : Nat) : fromBE (toBE k n) = n % 256 ^ k := by
  induction k generalizing n with
  | zero => simp [toBE, fromBE, Nat.mod_one]
  | succ k ih =>
    rw [toBE, fromBE_cons, ih, toBE_length, BitVec.toNat_ofNat, pow_succ (256 : Nat) k, Nat.mod_mul,
      show (2 : Nat) ^ 8 = 256 from rfl]
    ring

theorem fromBE_toBE_of_lt {k n : Nat} (h : n < 256 ^ k) : fromBE (toBE k n) = n := by
  rw [fromBE_toBE, Nat.mod_eq_of_lt h]

@[simp] theorem header_length (s : State) (k : FrameKind) (st : Nat) (id : Identity) (n : Nat) :
    (s.header k st id n).length = 26 := by simp [State.header]

@[simp] theorem recordHead_length (k c n : Nat) : (recordHead k c n).length = 4 := by simp [recordHead]

@[simp] theorem EchoEntry.encode_length (e : EchoEntry) : e.encode.length = 24 := by simp [EchoEntry.encode]

@[simp] theorem withFcs_length (bs : List Byte) : (withFcs bs).length = bs.length + 4 := by simp [withFcs]

/-- Every frame built is at least 60 bytes before its frame check sequence (R196). -/
theorem padFrame_length (bs : List Byte) : (padFrame bs).length = max bs.length 60 := by
  simp [padFrame]; omega

end Sys2Proof.Machine
end

