-- ==== Sys2Proof/Laws/State.lean ====
section
/-! SUPPORT. One lemma for each field of State and each operation that rewrites the state: which fields it leaves, and what it
puts in the others. All hold by rfl, or by the cases of the operation's one test. -/

namespace Sys2Proof.Machine

set_option Elab.async false

/-! ### State.withPending -/

@[simp] theorem State.withPending_loader (s : State) (cs : List Instr) : (s.withPending cs).loader = s.loader := rfl
@[simp] theorem State.withPending_clock (s : State) (cs : List Instr) : (s.withPending cs).clock = s.clock := rfl
@[simp] theorem State.withPending_agr (s : State) (cs : List Instr) : (s.withPending cs).agr = s.agr := rfl
@[simp] theorem State.withPending_lines (s : State) (cs : List Instr) : (s.withPending cs).lines = s.lines := rfl
@[simp] theorem State.withPending_handOffs (s : State) (cs : List Instr) : (s.withPending cs).handOffs = s.handOffs := rfl
@[simp] theorem State.withPending_arrivals (s : State) (cs : List Instr) : (s.withPending cs).arrivals = s.arrivals := rfl
@[simp] theorem State.withPending_arbiter (s : State) (cs : List Instr) : (s.withPending cs).arbiter = s.arbiter := rfl
@[simp] theorem State.withPending_feeds (s : State) (cs : List Instr) : (s.withPending cs).feeds = s.feeds := rfl
@[simp] theorem State.withPending_pool (s : State) (cs : List Instr) : (s.withPending cs).pool = s.pool := rfl
@[simp] theorem State.withPending_pub (s : State) (cs : List Instr) : (s.withPending cs).pub = s.pub := rfl
@[simp] theorem State.withPending_port (s : State) (cs : List Instr) : (s.withPending cs).port = s.port := rfl
@[simp] theorem State.withPending_req (s : State) (cs : List Instr) : (s.withPending cs).req = s.req := rfl
@[simp] theorem State.withPending_pending (s : State) (cs : List Instr) : (s.withPending cs).pending = cs := rfl

/-! ### State.raise -/

@[simp] theorem State.raise_loader (s : State) (c : Condition) : (s.raise c).loader = s.loader := rfl
@[simp] theorem State.raise_clock (s : State) (c : Condition) : (s.raise c).clock = s.clock := rfl
@[simp] theorem State.raise_agr (s : State) (c : Condition) : (s.raise c).agr = s.agr := rfl
@[simp] theorem State.raise_lines (s : State) (c : Condition) : (s.raise c).lines = s.lines := rfl
@[simp] theorem State.raise_handOffs (s : State) (c : Condition) : (s.raise c).handOffs = s.handOffs := rfl
@[simp] theorem State.raise_arrivals (s : State) (c : Condition) : (s.raise c).arrivals = s.arrivals := rfl
@[simp] theorem State.raise_arbiter (s : State) (c : Condition) : (s.raise c).arbiter = s.arbiter := rfl
@[simp] theorem State.raise_feeds (s : State) (c : Condition) : (s.raise c).feeds = s.feeds := rfl
@[simp] theorem State.raise_pool (s : State) (c : Condition) : (s.raise c).pool = s.pool := rfl
@[simp] theorem State.raise_pub (s : State) (c : Condition) : (s.raise c).pub = s.pub := rfl
@[simp] theorem State.raise_port (s : State) (c : Condition) : (s.raise c).port = s.port := rfl
@[simp] theorem State.raise_req (s : State) (c : Condition) : (s.raise c).req = s.req.raise c := rfl
@[simp] theorem State.raise_pending (s : State) (c : Condition) : (s.raise c).pending = s.pending := rfl

/-! ### State.respond -/

@[simp] theorem State.respond_loader (s : State) (p : Response) : (s.respond p).loader = s.loader := rfl
@[simp] theorem State.respond_clock (s : State) (p : Response) : (s.respond p).clock = s.clock := rfl
@[simp] theorem State.respond_agr (s : State) (p : Response) : (s.respond p).agr = s.agr := rfl
@[simp] theorem State.respond_lines (s : State) (p : Response) : (s.respond p).lines = s.lines := rfl
@[simp] theorem State.respond_handOffs (s : State) (p : Response) : (s.respond p).handOffs = s.handOffs := rfl
@[simp] theorem State.respond_arrivals (s : State) (p : Response) : (s.respond p).arrivals = s.arrivals := rfl
@[simp] theorem State.respond_arbiter (s : State) (p : Response) : (s.respond p).arbiter = s.arbiter := rfl
@[simp] theorem State.respond_feeds (s : State) (p : Response) : (s.respond p).feeds = s.feeds := rfl
@[simp] theorem State.respond_pool (s : State) (p : Response) : (s.respond p).pool = s.pool := rfl
@[simp] theorem State.respond_pub (s : State) (p : Response) : (s.respond p).pub = s.pub := rfl
@[simp] theorem State.respond_port (s : State) (p : Response) : (s.respond p).port = s.port := rfl
@[simp] theorem State.respond_req (s : State) (p : Response) : (s.respond p).req = s.req.respond p := rfl
@[simp] theorem State.respond_pending (s : State) (p : Response) : (s.respond p).pending = s.pending := rfl

/-! ### State.finish -/

@[simp] theorem State.finish_loader (s : State) (r : Result) (d : List Byte) : (s.finish r d).loader = s.loader := rfl
@[simp] theorem State.finish_clock (s : State) (r : Result) (d : List Byte) : (s.finish r d).clock = s.clock := rfl
@[simp] theorem State.finish_agr (s : State) (r : Result) (d : List Byte) : (s.finish r d).agr = s.agr := rfl
@[simp] theorem State.finish_lines (s : State) (r : Result) (d : List Byte) : (s.finish r d).lines = s.lines := rfl
@[simp] theorem State.finish_handOffs (s : State) (r : Result) (d : List Byte) : (s.finish r d).handOffs = s.handOffs := rfl
@[simp] theorem State.finish_arrivals (s : State) (r : Result) (d : List Byte) : (s.finish r d).arrivals = s.arrivals := rfl
@[simp] theorem State.finish_arbiter (s : State) (r : Result) (d : List Byte) : (s.finish r d).arbiter = s.arbiter := rfl
@[simp] theorem State.finish_feeds (s : State) (r : Result) (d : List Byte) : (s.finish r d).feeds = s.feeds := rfl
@[simp] theorem State.finish_pool (s : State) (r : Result) (d : List Byte) : (s.finish r d).pool = s.pool := rfl
@[simp] theorem State.finish_pub (s : State) (r : Result) (d : List Byte) : (s.finish r d).pub = s.pub := rfl
@[simp] theorem State.finish_port (s : State) (r : Result) (d : List Byte) : (s.finish r d).port = s.port := rfl
@[simp] theorem State.finish_req (s : State) (r : Result) (d : List Byte) : (s.finish r d).req = s.req.finish r d := rfl
@[simp] theorem State.finish_pending (s : State) (r : Result) (d : List Byte) : (s.finish r d).pending = s.pending := rfl

/-! ### State.modifyLine -/

@[simp] theorem State.modifyLine_loader (s : State) (i : Line) (f : LineRx → LineRx) : (s.modifyLine i f).loader = s.loader := rfl
@[simp] theorem State.modifyLine_clock (s : State) (i : Line) (f : LineRx → LineRx) : (s.modifyLine i f).clock = s.clock := rfl
@[simp] theorem State.modifyLine_agr (s : State) (i : Line) (f : LineRx → LineRx) : (s.modifyLine i f).agr = s.agr := rfl
@[simp] theorem State.modifyLine_lines (s : State) (i : Line) (f : LineRx → LineRx) : (s.modifyLine i f).lines = s.lines.set i (f (s.lines.get i)) := rfl
@[simp] theorem State.modifyLine_handOffs (s : State) (i : Line) (f : LineRx → LineRx) : (s.modifyLine i f).handOffs = s.handOffs := rfl
@[simp] theorem State.modifyLine_arrivals (s : State) (i : Line) (f : LineRx → LineRx) : (s.modifyLine i f).arrivals = s.arrivals := rfl
@[simp] theorem State.modifyLine_arbiter (s : State) (i : Line) (f : LineRx → LineRx) : (s.modifyLine i f).arbiter = s.arbiter := rfl
@[simp] theorem State.modifyLine_feeds (s : State) (i : Line) (f : LineRx → LineRx) : (s.modifyLine i f).feeds = s.feeds := rfl
@[simp] theorem State.modifyLine_pool (s : State) (i : Line) (f : LineRx → LineRx) : (s.modifyLine i f).pool = s.pool := rfl
@[simp] theorem State.modifyLine_pub (s : State) (i : Line) (f : LineRx → LineRx) : (s.modifyLine i f).pub = s.pub := rfl
@[simp] theorem State.modifyLine_port (s : State) (i : Line) (f : LineRx → LineRx) : (s.modifyLine i f).port = s.port := rfl
@[simp] theorem State.modifyLine_req (s : State) (i : Line) (f : LineRx → LineRx) : (s.modifyLine i f).req = s.req := rfl
@[simp] theorem State.modifyLine_pending (s : State) (i : Line) (f : LineRx → LineRx) : (s.modifyLine i f).pending = s.pending := rfl

/-! ### State.handArbiter -/

@[simp] theorem State.handArbiter_loader (s : State) (rs : List Record) : (s.handArbiter rs).loader = s.loader := rfl
@[simp] theorem State.handArbiter_clock (s : State) (rs : List Record) : (s.handArbiter rs).clock = s.clock := rfl
@[simp] theorem State.handArbiter_agr (s : State) (rs : List Record) : (s.handArbiter rs).agr = s.agr := rfl
@[simp] theorem State.handArbiter_lines (s : State) (rs : List Record) : (s.handArbiter rs).lines = s.lines := rfl
@[simp] theorem State.handArbiter_handOffs (s : State) (rs : List Record) : (s.handArbiter rs).handOffs = s.handOffs := rfl
@[simp] theorem State.handArbiter_arrivals (s : State) (rs : List Record) : (s.handArbiter rs).arrivals = s.arrivals := rfl
@[simp] theorem State.handArbiter_arbiter (s : State) (rs : List Record) : (s.handArbiter rs).arbiter = s.arbiter := rfl
@[simp] theorem State.handArbiter_feeds (s : State) (rs : List Record) : (s.handArbiter rs).feeds = s.feeds := rfl
@[simp] theorem State.handArbiter_pool (s : State) (rs : List Record) : (s.handArbiter rs).pool = s.pool := rfl
@[simp] theorem State.handArbiter_pub (s : State) (rs : List Record) : (s.handArbiter rs).pub = { s.pub with fromArbiter := s.pub.fromArbiter ++ rs } := rfl
@[simp] theorem State.handArbiter_port (s : State) (rs : List Record) : (s.handArbiter rs).port = s.port := rfl
@[simp] theorem State.handArbiter_req (s : State) (rs : List Record) : (s.handArbiter rs).req = s.req := rfl
@[simp] theorem State.handArbiter_pending (s : State) (rs : List Record) : (s.handArbiter rs).pending = s.pending := rfl

/-! ### State.handClassifier -/

@[simp] theorem State.handClassifier_loader (s : State) (a : ArrivalRec) : (s.handClassifier a).loader = s.loader := rfl
@[simp] theorem State.handClassifier_clock (s : State) (a : ArrivalRec) : (s.handClassifier a).clock = s.clock := rfl
@[simp] theorem State.handClassifier_agr (s : State) (a : ArrivalRec) : (s.handClassifier a).agr = s.agr := rfl
@[simp] theorem State.handClassifier_lines (s : State) (a : ArrivalRec) : (s.handClassifier a).lines = s.lines := rfl
@[simp] theorem State.handClassifier_handOffs (s : State) (a : ArrivalRec) : (s.handClassifier a).handOffs = s.handOffs := rfl
@[simp] theorem State.handClassifier_arrivals (s : State) (a : ArrivalRec) : (s.handClassifier a).arrivals = s.arrivals := rfl
@[simp] theorem State.handClassifier_arbiter (s : State) (a : ArrivalRec) : (s.handClassifier a).arbiter = s.arbiter := rfl
@[simp] theorem State.handClassifier_feeds (s : State) (a : ArrivalRec) : (s.handClassifier a).feeds = s.feeds := rfl
@[simp] theorem State.handClassifier_pool (s : State) (a : ArrivalRec) : (s.handClassifier a).pool = s.pool := rfl
@[simp] theorem State.handClassifier_pub (s : State) (a : ArrivalRec) : (s.handClassifier a).pub = { s.pub with fromClassifier := s.pub.fromClassifier ++ [Record.arrival a] } := rfl
@[simp] theorem State.handClassifier_port (s : State) (a : ArrivalRec) : (s.handClassifier a).port = s.port := rfl
@[simp] theorem State.handClassifier_req (s : State) (a : ArrivalRec) : (s.handClassifier a).req = s.req := rfl
@[simp] theorem State.handClassifier_pending (s : State) (a : ArrivalRec) : (s.handClassifier a).pending = s.pending := rfl

/-! ### State.setSlot -/

@[simp] theorem State.setSlot_loader (s : State) (i : Nat) (x : FeedSlot) : (s.setSlot i x).loader = s.loader := rfl
@[simp] theorem State.setSlot_clock (s : State) (i : Nat) (x : FeedSlot) : (s.setSlot i x).clock = s.clock := rfl
@[simp] theorem State.setSlot_agr (s : State) (i : Nat) (x : FeedSlot) : (s.setSlot i x).agr = s.agr := rfl
@[simp] theorem State.setSlot_lines (s : State) (i : Nat) (x : FeedSlot) : (s.setSlot i x).lines = s.lines := rfl
@[simp] theorem State.setSlot_handOffs (s : State) (i : Nat) (x : FeedSlot) : (s.setSlot i x).handOffs = s.handOffs := rfl
@[simp] theorem State.setSlot_arrivals (s : State) (i : Nat) (x : FeedSlot) : (s.setSlot i x).arrivals = s.arrivals := rfl
@[simp] theorem State.setSlot_arbiter (s : State) (i : Nat) (x : FeedSlot) : (s.setSlot i x).arbiter = s.arbiter := rfl
@[simp] theorem State.setSlot_feeds (s : State) (i : Nat) (x : FeedSlot) : (s.setSlot i x).feeds = s.feeds.set i x := rfl
@[simp] theorem State.setSlot_pool (s : State) (i : Nat) (x : FeedSlot) : (s.setSlot i x).pool = s.pool := rfl
@[simp] theorem State.setSlot_pub (s : State) (i : Nat) (x : FeedSlot) : (s.setSlot i x).pub = s.pub := rfl
@[simp] theorem State.setSlot_port (s : State) (i : Nat) (x : FeedSlot) : (s.setSlot i x).port = s.port := rfl
@[simp] theorem State.setSlot_req (s : State) (i : Nat) (x : FeedSlot) : (s.setSlot i x).req = s.req := rfl
@[simp] theorem State.setSlot_pending (s : State) (i : Nat) (x : FeedSlot) : (s.setSlot i x).pending = s.pending := rfl

/-! ### State.countPort -/

@[simp] theorem State.countPort_loader (s : State) (f : PortCounts → PortCounts) : (s.countPort f).loader = s.loader := rfl
@[simp] theorem State.countPort_clock (s : State) (f : PortCounts → PortCounts) : (s.countPort f).clock = s.clock := rfl
@[simp] theorem State.countPort_agr (s : State) (f : PortCounts → PortCounts) : (s.countPort f).agr = s.agr := rfl
@[simp] theorem State.countPort_lines (s : State) (f : PortCounts → PortCounts) : (s.countPort f).lines = s.lines := rfl
@[simp] theorem State.countPort_handOffs (s : State) (f : PortCounts → PortCounts) : (s.countPort f).handOffs = s.handOffs := rfl
@[simp] theorem State.countPort_arrivals (s : State) (f : PortCounts → PortCounts) : (s.countPort f).arrivals = s.arrivals := rfl
@[simp] theorem State.countPort_arbiter (s : State) (f : PortCounts → PortCounts) : (s.countPort f).arbiter = s.arbiter := rfl
@[simp] theorem State.countPort_feeds (s : State) (f : PortCounts → PortCounts) : (s.countPort f).feeds = s.feeds := rfl
@[simp] theorem State.countPort_pool (s : State) (f : PortCounts → PortCounts) : (s.countPort f).pool = s.pool := rfl
@[simp] theorem State.countPort_pub (s : State) (f : PortCounts → PortCounts) : (s.countPort f).pub = s.pub := rfl
@[simp] theorem State.countPort_port (s : State) (f : PortCounts → PortCounts) : (s.countPort f).port = { s.port with counts := f s.port.counts } := rfl
@[simp] theorem State.countPort_req (s : State) (f : PortCounts → PortCounts) : (s.countPort f).req = s.req := rfl
@[simp] theorem State.countPort_pending (s : State) (f : PortCounts → PortCounts) : (s.countPort f).pending = s.pending := rfl

/-! ### State.handSeconds -/

@[simp] theorem State.handSeconds_loader (s : State) (v : Nat) : (s.handSeconds v).loader = s.loader := rfl
@[simp] theorem State.handSeconds_agr (s : State) (v : Nat) : (s.handSeconds v).agr = s.agr := rfl
@[simp] theorem State.handSeconds_lines (s : State) (v : Nat) : (s.handSeconds v).lines = s.lines := rfl
@[simp] theorem State.handSeconds_handOffs (s : State) (v : Nat) : (s.handSeconds v).handOffs = s.handOffs := rfl
@[simp] theorem State.handSeconds_arrivals (s : State) (v : Nat) : (s.handSeconds v).arrivals = s.arrivals := rfl
@[simp] theorem State.handSeconds_arbiter (s : State) (v : Nat) : (s.handSeconds v).arbiter = s.arbiter := rfl
@[simp] theorem State.handSeconds_feeds (s : State) (v : Nat) : (s.handSeconds v).feeds = s.feeds := rfl
@[simp] theorem State.handSeconds_pool (s : State) (v : Nat) : (s.handSeconds v).pool = s.pool := rfl
@[simp] theorem State.handSeconds_pub (s : State) (v : Nat) : (s.handSeconds v).pub = s.pub := rfl
@[simp] theorem State.handSeconds_port (s : State) (v : Nat) : (s.handSeconds v).port = s.port := rfl
@[simp] theorem State.handSeconds_req (s : State) (v : Nat) : (s.handSeconds v).req = s.req := rfl
@[simp] theorem State.handSeconds_pending (s : State) (v : Nat) : (s.handSeconds v).pending = s.pending := rfl

/-! ### State.shedRecord -/

@[simp] theorem State.shedRecord_loader (s : State) (a : ArrivalRec) : (s.shedRecord a).loader = s.loader := rfl
@[simp] theorem State.shedRecord_clock (s : State) (a : ArrivalRec) : (s.shedRecord a).clock = s.clock := rfl
@[simp] theorem State.shedRecord_agr (s : State) (a : ArrivalRec) : (s.shedRecord a).agr = s.agr := rfl
@[simp] theorem State.shedRecord_lines (s : State) (a : ArrivalRec) : (s.shedRecord a).lines = s.lines := rfl
@[simp] theorem State.shedRecord_handOffs (s : State) (a : ArrivalRec) : (s.shedRecord a).handOffs = s.handOffs := rfl
@[simp] theorem State.shedRecord_arrivals (s : State) (a : ArrivalRec) : (s.shedRecord a).arrivals = s.arrivals := rfl
@[simp] theorem State.shedRecord_arbiter (s : State) (a : ArrivalRec) : (s.shedRecord a).arbiter = s.arbiter := rfl
@[simp] theorem State.shedRecord_feeds (s : State) (a : ArrivalRec) : (s.shedRecord a).feeds = shedInto s.feeds a := rfl
@[simp] theorem State.shedRecord_pool (s : State) (a : ArrivalRec) : (s.shedRecord a).pool = s.pool.releaseOpt a.chain := rfl
@[simp] theorem State.shedRecord_port (s : State) (a : ArrivalRec) : (s.shedRecord a).port = s.port := rfl
@[simp] theorem State.shedRecord_req (s : State) (a : ArrivalRec) : (s.shedRecord a).req = s.req := rfl
@[simp] theorem State.shedRecord_pending (s : State) (a : ArrivalRec) : (s.shedRecord a).pending = s.pending := rfl

/-! ### State.dropRecord -/

@[simp] theorem State.dropRecord_loader (s : State) (r : Record) : (s.dropRecord r).loader = s.loader := rfl
@[simp] theorem State.dropRecord_clock (s : State) (r : Record) : (s.dropRecord r).clock = s.clock := rfl
@[simp] theorem State.dropRecord_agr (s : State) (r : Record) : (s.dropRecord r).agr = s.agr := rfl
@[simp] theorem State.dropRecord_lines (s : State) (r : Record) : (s.dropRecord r).lines = s.lines := rfl
@[simp] theorem State.dropRecord_handOffs (s : State) (r : Record) : (s.dropRecord r).handOffs = s.handOffs := rfl
@[simp] theorem State.dropRecord_arrivals (s : State) (r : Record) : (s.dropRecord r).arrivals = s.arrivals := rfl
@[simp] theorem State.dropRecord_arbiter (s : State) (r : Record) : (s.dropRecord r).arbiter = s.arbiter := rfl
@[simp] theorem State.dropRecord_feeds (s : State) (r : Record) : (s.dropRecord r).feeds = s.feeds := rfl
@[simp] theorem State.dropRecord_pool (s : State) (r : Record) : (s.dropRecord r).pool = s.pool.releaseOpt r.chain := rfl
@[simp] theorem State.dropRecord_port (s : State) (r : Record) : (s.dropRecord r).port = s.port := rfl
@[simp] theorem State.dropRecord_req (s : State) (r : Record) : (s.dropRecord r).req = s.req.raise .recordsDropped := rfl
@[simp] theorem State.dropRecord_pending (s : State) (r : Record) : (s.dropRecord r).pending = s.pending := rfl

/-! ### State.stripRecord -/

@[simp] theorem State.stripRecord_loader (s : State) (r : Record) : (s.stripRecord r).loader = s.loader := rfl
@[simp] theorem State.stripRecord_clock (s : State) (r : Record) : (s.stripRecord r).clock = s.clock := rfl
@[simp] theorem State.stripRecord_agr (s : State) (r : Record) : (s.stripRecord r).agr = s.agr := rfl
@[simp] theorem State.stripRecord_lines (s : State) (r : Record) : (s.stripRecord r).lines = s.lines := rfl
@[simp] theorem State.stripRecord_handOffs (s : State) (r : Record) : (s.stripRecord r).handOffs = s.handOffs := rfl
@[simp] theorem State.stripRecord_arrivals (s : State) (r : Record) : (s.stripRecord r).arrivals = s.arrivals := rfl
@[simp] theorem State.stripRecord_arbiter (s : State) (r : Record) : (s.stripRecord r).arbiter = s.arbiter := rfl
@[simp] theorem State.stripRecord_feeds (s : State) (r : Record) : (s.stripRecord r).feeds = s.feeds := rfl
@[simp] theorem State.stripRecord_pool (s : State) (r : Record) : (s.stripRecord r).pool = s.pool.releaseOpt r.chain := rfl
@[simp] theorem State.stripRecord_port (s : State) (r : Record) : (s.stripRecord r).port = s.port := rfl
@[simp] theorem State.stripRecord_req (s : State) (r : Record) : (s.stripRecord r).req = s.req := rfl
@[simp] theorem State.stripRecord_pending (s : State) (r : Record) : (s.stripRecord r).pending = s.pending := rfl

/-! ### State.enterServing -/

@[simp] theorem State.enterServing_clock (s : State) (c : AgreementState) : (s.enterServing c).clock = s.clock := rfl
@[simp] theorem State.enterServing_lines (s : State) (c : AgreementState) : (s.enterServing c).lines = s.lines := rfl
@[simp] theorem State.enterServing_handOffs (s : State) (c : AgreementState) : (s.enterServing c).handOffs = s.handOffs := rfl
@[simp] theorem State.enterServing_arrivals (s : State) (c : AgreementState) : (s.enterServing c).arrivals = s.arrivals := rfl
@[simp] theorem State.enterServing_arbiter (s : State) (c : AgreementState) : (s.enterServing c).arbiter = s.arbiter := rfl
@[simp] theorem State.enterServing_feeds (s : State) (c : AgreementState) : (s.enterServing c).feeds = s.feeds := rfl
@[simp] theorem State.enterServing_pool (s : State) (c : AgreementState) : (s.enterServing c).pool = s.pool := rfl
@[simp] theorem State.enterServing_pub (s : State) (c : AgreementState) : (s.enterServing c).pub = s.pub := rfl
@[simp] theorem State.enterServing_port (s : State) (c : AgreementState) : (s.enterServing c).port = s.port := rfl
@[simp] theorem State.enterServing_pending (s : State) (c : AgreementState) : (s.enterServing c).pending = s.pending := rfl

/-! ### State.discardSamples -/

@[simp] theorem State.discardSamples_loader (s : State) : s.discardSamples.loader = s.loader := rfl
@[simp] theorem State.discardSamples_clock (s : State) : s.discardSamples.clock = s.clock := rfl
@[simp] theorem State.discardSamples_lines (s : State) : s.discardSamples.lines = s.lines := rfl
@[simp] theorem State.discardSamples_handOffs (s : State) : s.discardSamples.handOffs = s.handOffs := rfl
@[simp] theorem State.discardSamples_arrivals (s : State) : s.discardSamples.arrivals = s.arrivals := rfl
@[simp] theorem State.discardSamples_arbiter (s : State) : s.discardSamples.arbiter = s.arbiter := rfl
@[simp] theorem State.discardSamples_feeds (s : State) : s.discardSamples.feeds = s.feeds := rfl
@[simp] theorem State.discardSamples_pool (s : State) : s.discardSamples.pool = s.pool := rfl
@[simp] theorem State.discardSamples_pub (s : State) : s.discardSamples.pub = s.pub := rfl
@[simp] theorem State.discardSamples_req (s : State) : s.discardSamples.req = s.req := rfl
@[simp] theorem State.discardSamples_pending (s : State) : s.discardSamples.pending = s.pending := rfl

/-! ### State.reportUnmatched -/

@[simp] theorem State.reportUnmatched_loader (s : State) (h : HandOff) : (s.reportUnmatched h).loader = s.loader := rfl
@[simp] theorem State.reportUnmatched_clock (s : State) (h : HandOff) : (s.reportUnmatched h).clock = s.clock := rfl
@[simp] theorem State.reportUnmatched_agr (s : State) (h : HandOff) : (s.reportUnmatched h).agr = s.agr := rfl
@[simp] theorem State.reportUnmatched_handOffs (s : State) (h : HandOff) : (s.reportUnmatched h).handOffs = s.handOffs := rfl
@[simp] theorem State.reportUnmatched_arrivals (s : State) (h : HandOff) : (s.reportUnmatched h).arrivals = s.arrivals := rfl
@[simp] theorem State.reportUnmatched_arbiter (s : State) (h : HandOff) : (s.reportUnmatched h).arbiter = s.arbiter := rfl
@[simp] theorem State.reportUnmatched_feeds (s : State) (h : HandOff) : (s.reportUnmatched h).feeds = s.feeds := rfl
@[simp] theorem State.reportUnmatched_pub (s : State) (h : HandOff) : (s.reportUnmatched h).pub = s.pub := rfl
@[simp] theorem State.reportUnmatched_port (s : State) (h : HandOff) : (s.reportUnmatched h).port = s.port := rfl
@[simp] theorem State.reportUnmatched_req (s : State) (h : HandOff) : (s.reportUnmatched h).req = s.req := rfl
@[simp] theorem State.reportUnmatched_pending (s : State) (h : HandOff) : (s.reportUnmatched h).pending = s.pending := rfl

/-! ### State.storeRound -/

@[simp] theorem State.storeRound_loader (s : State) (r : Round) : (s.storeRound r).loader = s.loader := rfl
@[simp] theorem State.storeRound_lines (s : State) (r : Round) : (s.storeRound r).lines = s.lines := rfl
@[simp] theorem State.storeRound_handOffs (s : State) (r : Round) : (s.storeRound r).handOffs = s.handOffs := rfl
@[simp] theorem State.storeRound_arrivals (s : State) (r : Round) : (s.storeRound r).arrivals = s.arrivals := rfl
@[simp] theorem State.storeRound_arbiter (s : State) (r : Round) : (s.storeRound r).arbiter = s.arbiter := rfl
@[simp] theorem State.storeRound_feeds (s : State) (r : Round) : (s.storeRound r).feeds = s.feeds := rfl
@[simp] theorem State.storeRound_pool (s : State) (r : Round) : (s.storeRound r).pool = s.pool := rfl
@[simp] theorem State.storeRound_pub (s : State) (r : Round) : (s.storeRound r).pub = s.pub := rfl
@[simp] theorem State.storeRound_port (s : State) (r : Round) : (s.storeRound r).port = s.port := rfl
@[simp] theorem State.storeRound_req (s : State) (r : Round) : (s.storeRound r).req = s.req := rfl
@[simp] theorem State.storeRound_pending (s : State) (r : Round) : (s.storeRound r).pending = s.pending := rfl

/-! ### State.roundInServing -/

@[simp] theorem State.roundInServing_loader (s : State) (r : Round) : (s.roundInServing r).loader = s.loader := rfl
@[simp] theorem State.roundInServing_lines (s : State) (r : Round) : (s.roundInServing r).lines = s.lines := rfl
@[simp] theorem State.roundInServing_handOffs (s : State) (r : Round) : (s.roundInServing r).handOffs = s.handOffs := rfl
@[simp] theorem State.roundInServing_arrivals (s : State) (r : Round) : (s.roundInServing r).arrivals = s.arrivals := rfl
@[simp] theorem State.roundInServing_arbiter (s : State) (r : Round) : (s.roundInServing r).arbiter = s.arbiter := rfl
@[simp] theorem State.roundInServing_feeds (s : State) (r : Round) : (s.roundInServing r).feeds = s.feeds := rfl
@[simp] theorem State.roundInServing_pool (s : State) (r : Round) : (s.roundInServing r).pool = s.pool := rfl
@[simp] theorem State.roundInServing_pub (s : State) (r : Round) : (s.roundInServing r).pub = s.pub := rfl
@[simp] theorem State.roundInServing_port (s : State) (r : Round) : (s.roundInServing r).port = s.port := rfl
@[simp] theorem State.roundInServing_pending (s : State) (r : Round) : (s.roundInServing r).pending = s.pending := rfl

/-! ### State.sendBeacon -/

@[simp] theorem State.sendBeacon_loader (s : State) (p : Fin 16) : (s.sendBeacon p).loader = s.loader := rfl
@[simp] theorem State.sendBeacon_clock (s : State) (p : Fin 16) : (s.sendBeacon p).clock = s.clock := rfl
@[simp] theorem State.sendBeacon_lines (s : State) (p : Fin 16) : (s.sendBeacon p).lines = s.lines := rfl
@[simp] theorem State.sendBeacon_handOffs (s : State) (p : Fin 16) : (s.sendBeacon p).handOffs = s.handOffs := rfl
@[simp] theorem State.sendBeacon_arrivals (s : State) (p : Fin 16) : (s.sendBeacon p).arrivals = s.arrivals := rfl
@[simp] theorem State.sendBeacon_arbiter (s : State) (p : Fin 16) : (s.sendBeacon p).arbiter = s.arbiter := rfl
@[simp] theorem State.sendBeacon_feeds (s : State) (p : Fin 16) : (s.sendBeacon p).feeds = s.feeds := rfl
@[simp] theorem State.sendBeacon_pool (s : State) (p : Fin 16) : (s.sendBeacon p).pool = s.pool := rfl
@[simp] theorem State.sendBeacon_pub (s : State) (p : Fin 16) : (s.sendBeacon p).pub = s.pub := rfl
@[simp] theorem State.sendBeacon_req (s : State) (p : Fin 16) : (s.sendBeacon p).req = s.req := rfl
@[simp] theorem State.sendBeacon_pending (s : State) (p : Fin 16) : (s.sendBeacon p).pending = s.pending := rfl

/-! ### State.sendAlert -/

@[simp] theorem State.sendAlert_loader (s : State) : s.sendAlert.loader = s.loader := rfl
@[simp] theorem State.sendAlert_clock (s : State) : s.sendAlert.clock = s.clock := rfl
@[simp] theorem State.sendAlert_agr (s : State) : s.sendAlert.agr = s.agr := rfl
@[simp] theorem State.sendAlert_lines (s : State) : s.sendAlert.lines = s.lines := rfl
@[simp] theorem State.sendAlert_handOffs (s : State) : s.sendAlert.handOffs = s.handOffs := rfl
@[simp] theorem State.sendAlert_arrivals (s : State) : s.sendAlert.arrivals = s.arrivals := rfl
@[simp] theorem State.sendAlert_arbiter (s : State) : s.sendAlert.arbiter = s.arbiter := rfl
@[simp] theorem State.sendAlert_feeds (s : State) : s.sendAlert.feeds = s.feeds := rfl
@[simp] theorem State.sendAlert_pool (s : State) : s.sendAlert.pool = s.pool := rfl
@[simp] theorem State.sendAlert_pub (s : State) : s.sendAlert.pub = s.pub := rfl
@[simp] theorem State.sendAlert_pending (s : State) : s.sendAlert.pending = s.pending := rfl

/-! ### State.sendResponse -/

@[simp] theorem State.sendResponse_loader (s : State) (p : Response) (rest : List Response) : (s.sendResponse p rest).loader = s.loader := rfl
@[simp] theorem State.sendResponse_clock (s : State) (p : Response) (rest : List Response) : (s.sendResponse p rest).clock = s.clock := rfl
@[simp] theorem State.sendResponse_agr (s : State) (p : Response) (rest : List Response) : (s.sendResponse p rest).agr = s.agr := rfl
@[simp] theorem State.sendResponse_lines (s : State) (p : Response) (rest : List Response) : (s.sendResponse p rest).lines = s.lines := rfl
@[simp] theorem State.sendResponse_handOffs (s : State) (p : Response) (rest : List Response) : (s.sendResponse p rest).handOffs = s.handOffs := rfl
@[simp] theorem State.sendResponse_arrivals (s : State) (p : Response) (rest : List Response) : (s.sendResponse p rest).arrivals = s.arrivals := rfl
@[simp] theorem State.sendResponse_arbiter (s : State) (p : Response) (rest : List Response) : (s.sendResponse p rest).arbiter = s.arbiter := rfl
@[simp] theorem State.sendResponse_feeds (s : State) (p : Response) (rest : List Response) : (s.sendResponse p rest).feeds = s.feeds := rfl
@[simp] theorem State.sendResponse_pool (s : State) (p : Response) (rest : List Response) : (s.sendResponse p rest).pool = s.pool := rfl
@[simp] theorem State.sendResponse_pub (s : State) (p : Response) (rest : List Response) : (s.sendResponse p rest).pub = s.pub := rfl
@[simp] theorem State.sendResponse_req (s : State) (p : Response) (rest : List Response) : (s.sendResponse p rest).req = { s.req with responses := rest } := rfl
@[simp] theorem State.sendResponse_pending (s : State) (p : Response) (rest : List Response) : (s.sendResponse p rest).pending = s.pending := rfl

/-! ### State.closeFrame -/

@[simp] theorem State.closeFrame_loader (s : State) : s.closeFrame.loader = s.loader := rfl
@[simp] theorem State.closeFrame_clock (s : State) : s.closeFrame.clock = s.clock := rfl
@[simp] theorem State.closeFrame_agr (s : State) : s.closeFrame.agr = s.agr := rfl
@[simp] theorem State.closeFrame_lines (s : State) : s.closeFrame.lines = s.lines := rfl
@[simp] theorem State.closeFrame_handOffs (s : State) : s.closeFrame.handOffs = s.handOffs := rfl
@[simp] theorem State.closeFrame_arrivals (s : State) : s.closeFrame.arrivals = s.arrivals := rfl
@[simp] theorem State.closeFrame_arbiter (s : State) : s.closeFrame.arbiter = s.arbiter := rfl
@[simp] theorem State.closeFrame_feeds (s : State) : s.closeFrame.feeds = s.feeds := rfl
@[simp] theorem State.closeFrame_pool (s : State) : s.closeFrame.pool = s.pool := rfl
@[simp] theorem State.closeFrame_port (s : State) : s.closeFrame.port = s.port := rfl
@[simp] theorem State.closeFrame_req (s : State) : s.closeFrame.req = s.req := rfl
@[simp] theorem State.closeFrame_pending (s : State) : s.closeFrame.pending = s.pending := rfl

/-! ### State.reject -/

@[simp] theorem State.reject_clock (s : State) (c : RejectCause) : (s.reject c).clock = s.clock := rfl
@[simp] theorem State.reject_agr (s : State) (c : RejectCause) : (s.reject c).agr = s.agr := rfl
@[simp] theorem State.reject_lines (s : State) (c : RejectCause) : (s.reject c).lines = s.lines := rfl
@[simp] theorem State.reject_handOffs (s : State) (c : RejectCause) : (s.reject c).handOffs = s.handOffs := rfl
@[simp] theorem State.reject_arrivals (s : State) (c : RejectCause) : (s.reject c).arrivals = s.arrivals := rfl
@[simp] theorem State.reject_arbiter (s : State) (c : RejectCause) : (s.reject c).arbiter = s.arbiter := rfl
@[simp] theorem State.reject_feeds (s : State) (c : RejectCause) : (s.reject c).feeds = s.feeds := rfl
@[simp] theorem State.reject_pool (s : State) (c : RejectCause) : (s.reject c).pool = s.pool := rfl
@[simp] theorem State.reject_pub (s : State) (c : RejectCause) : (s.reject c).pub = s.pub := rfl
@[simp] theorem State.reject_port (s : State) (c : RejectCause) : (s.reject c).port = s.port := rfl
@[simp] theorem State.reject_pending (s : State) (c : RejectCause) : (s.reject c).pending = s.pending := rfl

/-! ### State.accept -/

@[simp] theorem State.accept_handOffs (s : State) (a : Accepted) : (s.accept a).handOffs = s.handOffs := rfl
@[simp] theorem State.accept_arrivals (s : State) (a : Accepted) : (s.accept a).arrivals = s.arrivals := rfl
@[simp] theorem State.accept_arbiter (s : State) (a : Accepted) : (s.accept a).arbiter = s.arbiter := rfl
@[simp] theorem State.accept_pool (s : State) (a : Accepted) : (s.accept a).pool = s.pool := rfl
@[simp] theorem State.accept_pub (s : State) (a : Accepted) : (s.accept a).pub = s.pub := rfl
@[simp] theorem State.accept_port (s : State) (a : Accepted) : (s.accept a).port = s.port := rfl
@[simp] theorem State.accept_pending (s : State) (a : Accepted) : (s.accept a).pending = s.pending := rfl

/-! ### State.flushRequests -/

@[simp] theorem State.flushRequests_loader (s : State) : s.flushRequests.loader = s.loader := rfl
@[simp] theorem State.flushRequests_agr (s : State) : s.flushRequests.agr = s.agr := rfl
@[simp] theorem State.flushRequests_lines (s : State) : s.flushRequests.lines = s.lines := rfl
@[simp] theorem State.flushRequests_handOffs (s : State) : s.flushRequests.handOffs = s.handOffs := rfl
@[simp] theorem State.flushRequests_arrivals (s : State) : s.flushRequests.arrivals = s.arrivals := rfl
@[simp] theorem State.flushRequests_arbiter (s : State) : s.flushRequests.arbiter = s.arbiter := rfl
@[simp] theorem State.flushRequests_feeds (s : State) : s.flushRequests.feeds = s.feeds := rfl
@[simp] theorem State.flushRequests_pool (s : State) : s.flushRequests.pool = s.pool := rfl
@[simp] theorem State.flushRequests_pub (s : State) : s.flushRequests.pub = s.pub := rfl
@[simp] theorem State.flushRequests_port (s : State) : s.flushRequests.port = s.port := rfl
@[simp] theorem State.flushRequests_req (s : State) : s.flushRequests.req = s.req.flush := rfl
@[simp] theorem State.flushRequests_pending (s : State) : s.flushRequests.pending = s.pending := rfl

/-! ### State.closingCondition -/

@[simp] theorem State.closingCondition_loader (s : State) : s.closingCondition.loader = s.loader := by
  unfold State.closingCondition; split <;> rfl
@[simp] theorem State.closingCondition_clock (s : State) : s.closingCondition.clock = s.clock := by
  unfold State.closingCondition; split <;> rfl
@[simp] theorem State.closingCondition_agr (s : State) : s.closingCondition.agr = s.agr := by
  unfold State.closingCondition; split <;> rfl
@[simp] theorem State.closingCondition_lines (s : State) : s.closingCondition.lines = s.lines := by
  unfold State.closingCondition; split <;> rfl
@[simp] theorem State.closingCondition_handOffs (s : State) : s.closingCondition.handOffs = s.handOffs := by
  unfold State.closingCondition; split <;> rfl
@[simp] theorem State.closingCondition_arrivals (s : State) : s.closingCondition.arrivals = s.arrivals := by
  unfold State.closingCondition; split <;> rfl
@[simp] theorem State.closingCondition_arbiter (s : State) : s.closingCondition.arbiter = s.arbiter := by
  unfold State.closingCondition; split <;> rfl
@[simp] theorem State.closingCondition_feeds (s : State) : s.closingCondition.feeds = s.feeds := by
  unfold State.closingCondition; split <;> rfl
@[simp] theorem State.closingCondition_pool (s : State) : s.closingCondition.pool = s.pool := by
  unfold State.closingCondition; split <;> rfl
@[simp] theorem State.closingCondition_port (s : State) : s.closingCondition.port = s.port := by
  unfold State.closingCondition; split <;> rfl
@[simp] theorem State.closingCondition_req (s : State) : s.closingCondition.req = s.req := by
  unfold State.closingCondition; split <;> rfl
@[simp] theorem State.closingCondition_pending (s : State) : s.closingCondition.pending = s.pending := by
  unfold State.closingCondition; split <;> rfl

/-! ### State.checkFull -/

@[simp] theorem State.checkFull_loader (s : State) : s.checkFull.loader = s.loader := by
  unfold State.checkFull; split <;> simp
@[simp] theorem State.checkFull_clock (s : State) : s.checkFull.clock = s.clock := by
  unfold State.checkFull; split <;> simp
@[simp] theorem State.checkFull_agr (s : State) : s.checkFull.agr = s.agr := by
  unfold State.checkFull; split <;> simp
@[simp] theorem State.checkFull_lines (s : State) : s.checkFull.lines = s.lines := by
  unfold State.checkFull; split <;> simp
@[simp] theorem State.checkFull_handOffs (s : State) : s.checkFull.handOffs = s.handOffs := by
  unfold State.checkFull; split <;> simp
@[simp] theorem State.checkFull_arrivals (s : State) : s.checkFull.arrivals = s.arrivals := by
  unfold State.checkFull; split <;> simp
@[simp] theorem State.checkFull_arbiter (s : State) : s.checkFull.arbiter = s.arbiter := by
  unfold State.checkFull; split <;> simp
@[simp] theorem State.checkFull_feeds (s : State) : s.checkFull.feeds = s.feeds := by
  unfold State.checkFull; split <;> simp
@[simp] theorem State.checkFull_pool (s : State) : s.checkFull.pool = s.pool := by
  unfold State.checkFull; split <;> simp
@[simp] theorem State.checkFull_port (s : State) : s.checkFull.port = s.port := by
  unfold State.checkFull; split <;> simp
@[simp] theorem State.checkFull_req (s : State) : s.checkFull.req = s.req := by
  unfold State.checkFull; split <;> simp
@[simp] theorem State.checkFull_pending (s : State) : s.checkFull.pending = s.pending := by
  unfold State.checkFull; split <;> simp

/-! ### State.endTx -/

@[simp] theorem State.endTx_loader (s : State) (e : TxEnding) : (s.endTx e).loader = s.loader := by
  unfold State.endTx; split <;> rfl
@[simp] theorem State.endTx_clock (s : State) (e : TxEnding) : (s.endTx e).clock = s.clock := by
  unfold State.endTx; split <;> rfl
@[simp] theorem State.endTx_agr (s : State) (e : TxEnding) : (s.endTx e).agr = s.agr := by
  unfold State.endTx; split <;> rfl
@[simp] theorem State.endTx_lines (s : State) (e : TxEnding) : (s.endTx e).lines = s.lines := by
  unfold State.endTx; split <;> rfl
@[simp] theorem State.endTx_handOffs (s : State) (e : TxEnding) : (s.endTx e).handOffs = s.handOffs := by
  unfold State.endTx; split <;> rfl
@[simp] theorem State.endTx_arrivals (s : State) (e : TxEnding) : (s.endTx e).arrivals = s.arrivals := by
  unfold State.endTx; split <;> rfl
@[simp] theorem State.endTx_arbiter (s : State) (e : TxEnding) : (s.endTx e).arbiter = s.arbiter := by
  unfold State.endTx; split <;> rfl
@[simp] theorem State.endTx_feeds (s : State) (e : TxEnding) : (s.endTx e).feeds = s.feeds := by
  unfold State.endTx; split <;> rfl
@[simp] theorem State.endTx_pool (s : State) (e : TxEnding) : (s.endTx e).pool = s.pool := by
  unfold State.endTx; split <;> rfl
@[simp] theorem State.endTx_req (s : State) (e : TxEnding) : (s.endTx e).req = s.req := by
  unfold State.endTx; split <;> rfl
@[simp] theorem State.endTx_pending (s : State) (e : TxEnding) : (s.endTx e).pending = s.pending := by
  unfold State.endTx; split <;> rfl

/-! ### State.abandonPublication -/

@[simp] theorem State.abandonPublication_loader (s : State) : s.abandonPublication.loader = s.loader := by
  unfold State.abandonPublication; split <;> [(split <;> simp); rfl]
@[simp] theorem State.abandonPublication_clock (s : State) : s.abandonPublication.clock = s.clock := by
  unfold State.abandonPublication; split <;> [(split <;> simp); rfl]
@[simp] theorem State.abandonPublication_agr (s : State) : s.abandonPublication.agr = s.agr := by
  unfold State.abandonPublication; split <;> [(split <;> simp); rfl]
@[simp] theorem State.abandonPublication_lines (s : State) : s.abandonPublication.lines = s.lines := by
  unfold State.abandonPublication; split <;> [(split <;> simp); rfl]
@[simp] theorem State.abandonPublication_handOffs (s : State) : s.abandonPublication.handOffs = s.handOffs := by
  unfold State.abandonPublication; split <;> [(split <;> simp); rfl]
@[simp] theorem State.abandonPublication_arrivals (s : State) : s.abandonPublication.arrivals = s.arrivals := by
  unfold State.abandonPublication; split <;> [(split <;> simp); rfl]
@[simp] theorem State.abandonPublication_arbiter (s : State) : s.abandonPublication.arbiter = s.arbiter := by
  unfold State.abandonPublication; split <;> [(split <;> simp); rfl]
@[simp] theorem State.abandonPublication_feeds (s : State) : s.abandonPublication.feeds = s.feeds := by
  unfold State.abandonPublication; split <;> [(split <;> simp); rfl]
@[simp] theorem State.abandonPublication_pool (s : State) : s.abandonPublication.pool = s.pool := by
  unfold State.abandonPublication; split <;> [(split <;> simp); rfl]
@[simp] theorem State.abandonPublication_req (s : State) : s.abandonPublication.req = s.req := by
  unfold State.abandonPublication; split <;> [(split <;> simp); rfl]
@[simp] theorem State.abandonPublication_pending (s : State) : s.abandonPublication.pending = s.pending := by
  unfold State.abandonPublication; split <;> [(split <;> simp); rfl]

/-! ### State.checkShedding -/

@[simp] theorem State.checkShedding_loader (s : State) : s.checkShedding.loader = s.loader := by
  unfold State.checkShedding; split <;> rfl
@[simp] theorem State.checkShedding_clock (s : State) : s.checkShedding.clock = s.clock := by
  unfold State.checkShedding; split <;> rfl
@[simp] theorem State.checkShedding_agr (s : State) : s.checkShedding.agr = s.agr := by
  unfold State.checkShedding; split <;> rfl
@[simp] theorem State.checkShedding_lines (s : State) : s.checkShedding.lines = s.lines := by
  unfold State.checkShedding; split <;> rfl
@[simp] theorem State.checkShedding_handOffs (s : State) : s.checkShedding.handOffs = s.handOffs := by
  unfold State.checkShedding; split <;> rfl
@[simp] theorem State.checkShedding_arrivals (s : State) : s.checkShedding.arrivals = s.arrivals := by
  unfold State.checkShedding; split <;> rfl
@[simp] theorem State.checkShedding_arbiter (s : State) : s.checkShedding.arbiter = s.arbiter := by
  unfold State.checkShedding; split <;> rfl
@[simp] theorem State.checkShedding_feeds (s : State) : s.checkShedding.feeds = s.feeds := by
  unfold State.checkShedding; split <;> rfl
@[simp] theorem State.checkShedding_pool (s : State) : s.checkShedding.pool = s.pool := by
  unfold State.checkShedding; split <;> rfl
@[simp] theorem State.checkShedding_port (s : State) : s.checkShedding.port = s.port := by
  unfold State.checkShedding; split <;> rfl
@[simp] theorem State.checkShedding_pending (s : State) : s.checkShedding.pending = s.pending := by
  unfold State.checkShedding; split <;> rfl

/-! ### State.checkNormal -/

@[simp] theorem State.checkNormal_loader (s : State) : s.checkNormal.loader = s.loader := by
  unfold State.checkNormal; split <;> rfl
@[simp] theorem State.checkNormal_clock (s : State) : s.checkNormal.clock = s.clock := by
  unfold State.checkNormal; split <;> rfl
@[simp] theorem State.checkNormal_agr (s : State) : s.checkNormal.agr = s.agr := by
  unfold State.checkNormal; split <;> rfl
@[simp] theorem State.checkNormal_lines (s : State) : s.checkNormal.lines = s.lines := by
  unfold State.checkNormal; split <;> rfl
@[simp] theorem State.checkNormal_handOffs (s : State) : s.checkNormal.handOffs = s.handOffs := by
  unfold State.checkNormal; split <;> rfl
@[simp] theorem State.checkNormal_arrivals (s : State) : s.checkNormal.arrivals = s.arrivals := by
  unfold State.checkNormal; split <;> rfl
@[simp] theorem State.checkNormal_arbiter (s : State) : s.checkNormal.arbiter = s.arbiter := by
  unfold State.checkNormal; split <;> rfl
@[simp] theorem State.checkNormal_pool (s : State) : s.checkNormal.pool = s.pool := by
  unfold State.checkNormal; split <;> rfl
@[simp] theorem State.checkNormal_port (s : State) : s.checkNormal.port = s.port := by
  unfold State.checkNormal; split <;> rfl
@[simp] theorem State.checkNormal_req (s : State) : s.checkNormal.req = s.req := by
  unfold State.checkNormal; split <;> rfl
@[simp] theorem State.checkNormal_pending (s : State) : s.checkNormal.pending = s.pending := by
  unfold State.checkNormal; split <;> rfl

/-! ### State.enqueueRecord -/

@[simp] theorem State.enqueueRecord_loader (s : State) (r : Record) : (s.enqueueRecord r).loader = s.loader := by
  simp [State.enqueueRecord]
@[simp] theorem State.enqueueRecord_clock (s : State) (r : Record) : (s.enqueueRecord r).clock = s.clock := by
  simp [State.enqueueRecord]
@[simp] theorem State.enqueueRecord_agr (s : State) (r : Record) : (s.enqueueRecord r).agr = s.agr := by
  simp [State.enqueueRecord]
@[simp] theorem State.enqueueRecord_lines (s : State) (r : Record) : (s.enqueueRecord r).lines = s.lines := by
  simp [State.enqueueRecord]
@[simp] theorem State.enqueueRecord_handOffs (s : State) (r : Record) : (s.enqueueRecord r).handOffs = s.handOffs := by
  simp [State.enqueueRecord]
@[simp] theorem State.enqueueRecord_arrivals (s : State) (r : Record) : (s.enqueueRecord r).arrivals = s.arrivals := by
  simp [State.enqueueRecord]
@[simp] theorem State.enqueueRecord_arbiter (s : State) (r : Record) : (s.enqueueRecord r).arbiter = s.arbiter := by
  simp [State.enqueueRecord]
@[simp] theorem State.enqueueRecord_feeds (s : State) (r : Record) : (s.enqueueRecord r).feeds = s.feeds := by
  simp [State.enqueueRecord]
@[simp] theorem State.enqueueRecord_pool (s : State) (r : Record) : (s.enqueueRecord r).pool = s.pool := by
  simp [State.enqueueRecord]
@[simp] theorem State.enqueueRecord_port (s : State) (r : Record) : (s.enqueueRecord r).port = s.port := by
  simp [State.enqueueRecord]
@[simp] theorem State.enqueueRecord_pending (s : State) (r : Record) : (s.enqueueRecord r).pending = s.pending := by
  simp [State.enqueueRecord]

/-! ### State.queueRecord -/

@[simp] theorem State.queueRecord_loader (s : State) (r : Record) : (s.queueRecord r).loader = s.loader := by
  unfold State.queueRecord; split <;> [skip; split] <;> simp
@[simp] theorem State.queueRecord_clock (s : State) (r : Record) : (s.queueRecord r).clock = s.clock := by
  unfold State.queueRecord; split <;> [skip; split] <;> simp
@[simp] theorem State.queueRecord_agr (s : State) (r : Record) : (s.queueRecord r).agr = s.agr := by
  unfold State.queueRecord; split <;> [skip; split] <;> simp
@[simp] theorem State.queueRecord_lines (s : State) (r : Record) : (s.queueRecord r).lines = s.lines := by
  unfold State.queueRecord; split <;> [skip; split] <;> simp
@[simp] theorem State.queueRecord_handOffs (s : State) (r : Record) : (s.queueRecord r).handOffs = s.handOffs := by
  unfold State.queueRecord; split <;> [skip; split] <;> simp
@[simp] theorem State.queueRecord_arrivals (s : State) (r : Record) : (s.queueRecord r).arrivals = s.arrivals := by
  unfold State.queueRecord; split <;> [skip; split] <;> simp
@[simp] theorem State.queueRecord_arbiter (s : State) (r : Record) : (s.queueRecord r).arbiter = s.arbiter := by
  unfold State.queueRecord; split <;> [skip; split] <;> simp
@[simp] theorem State.queueRecord_feeds (s : State) (r : Record) : (s.queueRecord r).feeds = s.feeds := by
  unfold State.queueRecord; split <;> [skip; split] <;> simp
@[simp] theorem State.queueRecord_port (s : State) (r : Record) : (s.queueRecord r).port = s.port := by
  unfold State.queueRecord; split <;> [skip; split] <;> simp
@[simp] theorem State.queueRecord_pending (s : State) (r : Record) : (s.queueRecord r).pending = s.pending := by
  unfold State.queueRecord; split <;> [skip; split] <;> simp

/-! ### State.publish -/

@[simp] theorem State.publish_loader (s : State) (r : Record) : (s.publish r).loader = s.loader := by
  unfold State.publish; split <;> [skip; split] <;> [skip; split; skip] <;> simp
@[simp] theorem State.publish_clock (s : State) (r : Record) : (s.publish r).clock = s.clock := by
  unfold State.publish; split <;> [skip; split] <;> [skip; split; skip] <;> simp
@[simp] theorem State.publish_agr (s : State) (r : Record) : (s.publish r).agr = s.agr := by
  unfold State.publish; split <;> [skip; split] <;> [skip; split; skip] <;> simp
@[simp] theorem State.publish_lines (s : State) (r : Record) : (s.publish r).lines = s.lines := by
  unfold State.publish; split <;> [skip; split] <;> [skip; split; skip] <;> simp
@[simp] theorem State.publish_handOffs (s : State) (r : Record) : (s.publish r).handOffs = s.handOffs := by
  unfold State.publish; split <;> [skip; split] <;> [skip; split; skip] <;> simp
@[simp] theorem State.publish_arrivals (s : State) (r : Record) : (s.publish r).arrivals = s.arrivals := by
  unfold State.publish; split <;> [skip; split] <;> [skip; split; skip] <;> simp
@[simp] theorem State.publish_arbiter (s : State) (r : Record) : (s.publish r).arbiter = s.arbiter := by
  unfold State.publish; split <;> [skip; split] <;> [skip; split; skip] <;> simp
@[simp] theorem State.publish_port (s : State) (r : Record) : (s.publish r).port = s.port := by
  unfold State.publish; split <;> [skip; split] <;> [skip; split; skip] <;> simp
@[simp] theorem State.publish_pending (s : State) (r : Record) : (s.publish r).pending = s.pending := by
  unfold State.publish; split <;> [skip; split] <;> [skip; split; skip] <;> simp

/-! ### State.refillSlot -/

@[simp] theorem State.refillSlot_loader (s : State) : s.refillSlot.loader = s.loader := by
  unfold State.refillSlot; split <;> simp
@[simp] theorem State.refillSlot_clock (s : State) : s.refillSlot.clock = s.clock := by
  unfold State.refillSlot; split <;> simp
@[simp] theorem State.refillSlot_agr (s : State) : s.refillSlot.agr = s.agr := by
  unfold State.refillSlot; split <;> simp
@[simp] theorem State.refillSlot_lines (s : State) : s.refillSlot.lines = s.lines := by
  unfold State.refillSlot; split <;> simp
@[simp] theorem State.refillSlot_handOffs (s : State) : s.refillSlot.handOffs = s.handOffs := by
  unfold State.refillSlot; split <;> simp
@[simp] theorem State.refillSlot_arrivals (s : State) : s.refillSlot.arrivals = s.arrivals := by
  unfold State.refillSlot; split <;> simp
@[simp] theorem State.refillSlot_arbiter (s : State) : s.refillSlot.arbiter = s.arbiter := by
  unfold State.refillSlot; split <;> simp
@[simp] theorem State.refillSlot_feeds (s : State) : s.refillSlot.feeds = s.feeds := by
  unfold State.refillSlot; split <;> simp
@[simp] theorem State.refillSlot_pool (s : State) : s.refillSlot.pool = s.pool := by
  unfold State.refillSlot; split <;> simp
@[simp] theorem State.refillSlot_port (s : State) : s.refillSlot.port = s.port := by
  unfold State.refillSlot; split <;> simp
@[simp] theorem State.refillSlot_req (s : State) : s.refillSlot.req = s.req := by
  unfold State.refillSlot; split <;> simp
@[simp] theorem State.refillSlot_pending (s : State) : s.refillSlot.pending = s.pending := by
  unfold State.refillSlot; split <;> simp

/-! ### State.addPart -/

@[simp] theorem State.addPart_loader (s : State) (b : Block) (v : List Byte) : (s.addPart b v).loader = s.loader := rfl
@[simp] theorem State.addPart_clock (s : State) (b : Block) (v : List Byte) : (s.addPart b v).clock = s.clock := rfl
@[simp] theorem State.addPart_agr (s : State) (b : Block) (v : List Byte) : (s.addPart b v).agr = s.agr := rfl
@[simp] theorem State.addPart_lines (s : State) (b : Block) (v : List Byte) : (s.addPart b v).lines = s.lines := rfl
@[simp] theorem State.addPart_handOffs (s : State) (b : Block) (v : List Byte) : (s.addPart b v).handOffs = s.handOffs := rfl
@[simp] theorem State.addPart_arrivals (s : State) (b : Block) (v : List Byte) : (s.addPart b v).arrivals = s.arrivals := rfl
@[simp] theorem State.addPart_arbiter (s : State) (b : Block) (v : List Byte) : (s.addPart b v).arbiter = s.arbiter := rfl
@[simp] theorem State.addPart_feeds (s : State) (b : Block) (v : List Byte) : (s.addPart b v).feeds = s.feeds := rfl
@[simp] theorem State.addPart_pool (s : State) (b : Block) (v : List Byte) : (s.addPart b v).pool = s.pool := rfl
@[simp] theorem State.addPart_pub (s : State) (b : Block) (v : List Byte) : (s.addPart b v).pub = s.pub := rfl
@[simp] theorem State.addPart_port (s : State) (b : Block) (v : List Byte) : (s.addPart b v).port = s.port := rfl
@[simp] theorem State.addPart_pending (s : State) (b : Block) (v : List Byte) : (s.addPart b v).pending = s.pending := rfl
@[simp] theorem State.addPart_req (s : State) (b : Block) (v : List Byte) :
    (s.addPart b v).req = { s.req with parts := s.req.parts ++ [{ block := b, items := v }] } := rfl

/-! ### State.clearCounts -/

@[simp] theorem State.clearCounts_loader (s : State) (b : Block) : (s.clearCounts b).loader = s.loader := by
  cases b <;> rfl
@[simp] theorem State.clearCounts_handOffs (s : State) (b : Block) : (s.clearCounts b).handOffs = s.handOffs := by
  cases b <;> rfl
@[simp] theorem State.clearCounts_arrivals (s : State) (b : Block) : (s.clearCounts b).arrivals = s.arrivals := by
  cases b <;> rfl
@[simp] theorem State.clearCounts_pending (s : State) (b : Block) : (s.clearCounts b).pending = s.pending := by
  cases b <;> rfl
@[simp] theorem State.clearCounts_parts (s : State) (b : Block) : (s.clearCounts b).req.parts = s.req.parts := by
  cases b <;> rfl
@[simp] theorem State.clearCounts_queue (s : State) (b : Block) : (s.clearCounts b).req.queue = s.req.queue := by
  cases b <;> rfl

end Sys2Proof.Machine
end

