-- ==== Sys2Proof/Laws/Word.lean ====
section
/-! SUPPORT. Reading and writing one of eight like values. -/

namespace Sys2Proof

set_option Elab.async false

variable {α β : Type}

@[simp] theorem PerLine.get_all (x : α) (i : Line) : (PerLine.all x).get i = x := by
  fin_cases i <;> rfl

@[simp] theorem PerLine.get_set_same (p : PerLine α) (i : Line) (x : α) : (p.set i x).get i = x := by
  fin_cases i <;> rfl

@[simp] theorem PerLine.get_set_other (p : PerLine α) {i j : Line} (x : α) (h : j ≠ i) :
    (p.set i x).get j = p.get j := by
  fin_cases i <;> fin_cases j <;> first | rfl | exact absurd rfl h

theorem PerLine.get_set (p : PerLine α) (i j : Line) (x : α) :
    (p.set i x).get j = if j = i then x else p.get j := by
  by_cases h : j = i
  · subst h; simp
  · simp [h]

@[simp] theorem PerLine.get_map (f : α → β) (p : PerLine α) (i : Line) : (p.map f).get i = f (p.get i) := by
  fin_cases i <;> rfl

@[simp] theorem PerLine.set_get (p : PerLine α) (i : Line) : p.set i (p.get i) = p := by
  fin_cases i <;> rfl

@[simp] theorem PerLine.set_set (p : PerLine α) (i : Line) (x y : α) : (p.set i x).set i y = p.set i y := by
  fin_cases i <;> rfl

@[ext] theorem PerLine.ext_get {p q : PerLine α} (h : ∀ i, p.get i = q.get i) : p = q := by
  cases p; cases q
  have h0 := h 0; have h1 := h 1; have h2 := h 2; have h3 := h 3
  have h4 := h 4; have h5 := h 5; have h6 := h 6; have h7 := h 7
  simp only [PerLine.get] at h0 h1 h2 h3 h4 h5 h6 h7
  simp [*]

@[simp] theorem PerLine.toList_map (f : α → β) (p : PerLine α) : (p.map f).toList = p.toList.map f := rfl

/-- The sum of eight numbers after one is replaced. -/
theorem PerLine.sum_set (p : PerLine Nat) (i : Line) (x : Nat) :
    (p.set i x).toList.sum + p.get i = p.toList.sum + x := by
  fin_cases i <;> simp [PerLine.set, PerLine.get, PerLine.toList] <;> omega

/-- Eight lists' members, one of them replaced: membership in the values. -/
theorem PerLine.mem_toList (p : PerLine α) (x : α) : x ∈ p.toList ↔ ∃ i, p.get i = x := by
  constructor
  · intro h
    simp only [PerLine.toList, List.mem_cons, List.not_mem_nil, or_false] at h
    rcases h with h | h | h | h | h | h | h | h
    · exact ⟨0, h.symm⟩
    · exact ⟨1, h.symm⟩
    · exact ⟨2, h.symm⟩
    · exact ⟨3, h.symm⟩
    · exact ⟨4, h.symm⟩
    · exact ⟨5, h.symm⟩
    · exact ⟨6, h.symm⟩
    · exact ⟨7, h.symm⟩
  · rintro ⟨i, rfl⟩
    fin_cases i <;> simp [PerLine.toList, PerLine.get]

end Sys2Proof
end

