-- ==== Sys2Proof/Laws/Ops.lean ====
section
/-! SUPPORT. For each shared operation, one lemma that says what it can do. -/

namespace Sys2Proof.Machine

set_option Elab.async false

/-! ### Counters and conditions -/

theorem bump_le (n : Nat) : bump n ≤ Config.counterMax := Nat.min_le_right _ _

theorem bump_of_lt {n : Nat} (h : n < Config.counterMax) : bump n = n + 1 := by
  simp [bump]; omega

theorem bumpBy_le (k n : Nat) : bumpBy k n ≤ Config.counterMax := Nat.min_le_right _ _

@[simp] theorem ReqHandler.gateTest_set (r : ReqHandler) : r.gateTest.set = r.set := by
  unfold ReqHandler.gateTest; split <;> rfl

@[simp] theorem ReqHandler.gateTest_fresh (r : ReqHandler) : r.gateTest.fresh = r.fresh := by
  unfold ReqHandler.gateTest; split <;> rfl

@[simp] theorem ReqHandler.gateTest_enabled (r : ReqHandler) : r.gateTest.enabled = r.enabled := by
  unfold ReqHandler.gateTest; split <;> rfl

@[simp] theorem ReqHandler.gateTest_queue (r : ReqHandler) : r.gateTest.queue = r.queue := by
  unfold ReqHandler.gateTest; split <;> rfl

@[simp] theorem ReqHandler.gateTest_responses (r : ReqHandler) : r.gateTest.responses = r.responses := by
  unfold ReqHandler.gateTest; split <;> rfl

@[simp] theorem ReqHandler.gateTest_latch (r : ReqHandler) : r.gateTest.latch = r.latch := by
  unfold ReqHandler.gateTest; split <;> rfl

@[simp] theorem ReqHandler.gateTest_counts (r : ReqHandler) : r.gateTest.counts = r.counts := by
  unfold ReqHandler.gateTest; split <;> rfl

@[simp] theorem ReqHandler.gateTest_alertNumber (r : ReqHandler) : r.gateTest.alertNumber = r.alertNumber := by
  unfold ReqHandler.gateTest; split <;> rfl

/-- What the gate test can do (R182): it closes an open gate and makes an ALERT frame pending, or changes nothing. -/
theorem ReqHandler.gateTest_cases (r : ReqHandler) :
    (r.gateOpen = true ∧ r.set &&& r.enabled ≠ 0 ∧ r.gateTest = { r with gateOpen := false, alertPending := true }) ∨
      (¬ (r.gateOpen = true ∧ r.set &&& r.enabled ≠ 0) ∧ r.gateTest = r) := by
  by_cases h : r.gateOpen = true ∧ r.set &&& r.enabled ≠ 0
  · refine .inl ⟨h.1, h.2, ?_⟩
    unfold ReqHandler.gateTest
    rw [if_pos]
    simpa using h
  · refine .inr ⟨h, ?_⟩
    unfold ReqHandler.gateTest
    rw [if_neg]
    simpa using h

/-- After a gate test the gate is not open over a condition both set and enabled (R182). -/
theorem ReqHandler.gateTest_open (r : ReqHandler) (h : r.gateTest.gateOpen = true) : r.set &&& r.enabled = 0 := by
  rcases r.gateTest_cases with ⟨_, _, e⟩ | ⟨hn, e⟩
  · rw [e] at h; cases h
  · rw [e] at h
    by_contra hc
    exact hn ⟨h, hc⟩

@[simp] theorem ReqHandler.raise_set (r : ReqHandler) (c : Condition) : (r.raise c).set = r.set ||| c.bit := by
  simp [ReqHandler.raise]

@[simp] theorem ReqHandler.raise_enabled (r : ReqHandler) (c : Condition) : (r.raise c).enabled = r.enabled := by
  simp [ReqHandler.raise]

@[simp] theorem ReqHandler.raise_queue (r : ReqHandler) (c : Condition) : (r.raise c).queue = r.queue := by
  simp [ReqHandler.raise]

@[simp] theorem ReqHandler.raise_responses (r : ReqHandler) (c : Condition) : (r.raise c).responses = r.responses := by
  simp [ReqHandler.raise]

@[simp] theorem ReqHandler.raise_counts (r : ReqHandler) (c : Condition) : (r.raise c).counts = r.counts := by
  simp [ReqHandler.raise]

/-- What a formed response can do (R172). -/
theorem ReqHandler.respond_cases (r : ReqHandler) (p : Response) :
    (r.responses.length < Config.responseLimit ∧ r.respond p = { r with responses := r.responses ++ [p] }) ∨
      (Config.responseLimit ≤ r.responses.length ∧
        r.respond p = { r with counts := { r.counts with unanswered := bump r.counts.unanswered } }) := by
  by_cases h : r.responses.length < Config.responseLimit
  · exact .inl ⟨h, by simp [ReqHandler.respond, h]⟩
  · exact .inr ⟨Nat.le_of_not_lt h, by simp [ReqHandler.respond, h]⟩

/-! ### The Page Pool -/

@[simp] theorem Pool.release_free (p : Pool) (i : Line) (n : Nat) : (p.release i n).free = p.free + n := rfl

@[simp] theorem Pool.release_held (p : Pool) (i : Line) (n : Nat) :
    (p.release i n).held = p.held.set i (p.held.get i - n) := rfl

@[simp] theorem Pool.release_low (p : Pool) (i : Line) (n : Nat) : (p.release i n).low = p.low := rfl

@[simp] theorem Pool.releaseOpt_none (p : Pool) : p.releaseOpt none = p := rfl

@[simp] theorem Pool.releaseOpt_some (p : Pool) (c : Chain) : p.releaseOpt (some c) = p.release c.line c.pages.length := rfl

@[simp] theorem Pool.releaseAll_nil (p : Pool) : p.releaseAll [] = p := rfl

@[simp] theorem Pool.releaseAll_cons (p : Pool) (c : Option Chain) (cs : List (Option Chain)) :
    p.releaseAll (c :: cs) = (p.releaseOpt c).releaseAll cs := rfl

/-- A release keeps the number of pages, when the line held those released (R123). -/
theorem Pool.release_total (p : Pool) (i : Line) (n : Nat) (h : n ≤ p.held.get i) :
    (p.release i n).free + (p.release i n).held.toList.sum = p.free + p.held.toList.sum := by
  have := p.held.sum_set i (p.held.get i - n)
  simp only [Pool.release_free, Pool.release_held]
  omega

/-- A page taken keeps the number of pages (R125). -/
theorem Pool.take_total (p : Pool) (i : Line) (h : 0 < p.free) :
    (p.take i).free + (p.take i).held.toList.sum = p.free + p.held.toList.sum := by
  have := p.held.sum_set i (p.held.get i + 1)
  simp only [Pool.take]
  omega

@[simp] theorem Chain.trim_line (c : Chain) (m : Carriage) : (c.trim m).line = c.line := rfl

theorem Chain.trim_pages_le (c : Chain) (m : Carriage) : (c.trim m).pages.length ≤ c.pages.length := by
  simp [Chain.trim]

/-- What the pool decides of an offered byte (R125). -/
theorem Pool.offer_cases (p : Pool) (c : Chain) (m : Carriage) :
    (p.offer c m = .passed ∧ m.captureLimit ≤ c.stored) ∨
      (p.offer c m = .stored ∧ c.stored < m.captureLimit ∧ c.stored % Config.pageBytes ≠ 0) ∨
      (p.offer c m = .poolRefused ∧ c.stored < m.captureLimit ∧ c.stored % Config.pageBytes = 0 ∧ p.free = 0) ∨
      (p.offer c m = .quotaRefused ∧ c.stored < m.captureLimit ∧ c.stored % Config.pageBytes = 0 ∧ p.free ≠ 0 ∧
        p.held.get c.line = Config.lineQuota) ∨
      (p.offer c m = .newPage ∧ c.stored < m.captureLimit ∧ c.stored % Config.pageBytes = 0 ∧ p.free ≠ 0 ∧
        p.held.get c.line ≠ Config.lineQuota) := by
  unfold Pool.offer
  split
  · exact .inl ⟨rfl, by assumption⟩
  · split
    · exact .inr (.inl ⟨rfl, by omega, by assumption⟩)
    · split
      · exact .inr (.inr (.inl ⟨rfl, by omega, by omega, by assumption⟩))
      · split
        · exact .inr (.inr (.inr (.inl ⟨rfl, by omega, by omega, by assumption, by assumption⟩)))
        · exact .inr (.inr (.inr (.inr ⟨rfl, by omega, by omega, by assumption, by assumption⟩)))

/-! ### Requests carried out block by block -/

/-- What an event of a request carried out block by block can do (R175, R177): a block among those that take part takes its part
once; the response is formed when every part has been taken; else nothing. -/
theorem State.byBlocks_cases (s : State) (blocks : List Block) (part : Option Block) (take : Block → State) (data : List Byte) :
    (∃ b, part = some b ∧ b ∈ blocks ∧ s.req.took b = false ∧ s.byBlocks blocks part take data = take b) ∨
      (part = none ∧ (∀ b ∈ blocks, s.req.took b = true) ∧ s.byBlocks blocks part take data = s.finish .ok data) ∨
      s.byBlocks blocks part take data = s := by
  unfold State.byBlocks
  cases part with
  | some b =>
    by_cases h : b ∈ blocks ∧ s.req.took b = false
    · exact .inl ⟨b, rfl, h.1, h.2, if_pos h⟩
    · exact .inr (.inr (if_neg h))
  | none =>
    by_cases h : blocks.all s.req.took = true
    · exact .inr (.inl ⟨rfl, List.all_eq_true.1 h, if_pos h⟩)
    · exact .inr (.inr (if_neg h))

/-- A block has taken its part after it takes it. -/
theorem State.took_addPart (s : State) (b c : Block) (v : List Byte) :
    (s.addPart b v).req.took c = (s.req.took c || decide (b = c)) := by
  simp [State.addPart, ReqHandler.took]

/-! ### Pulse dates -/

@[simp] theorem Clock.pulseDate_zero (c : Clock) (p : Fin 16) : c.pulseDate 0 p = some (c.date p 0) := rfl

/-- A pulse of a tick that has ended (R22, R23): dated on that tick, then moved as each boundary since moved cage time. -/
theorem Clock.pulseDate_succ (c : Clock) (n : Nat) (p : Fin 16) (t : PastTick) (h : c.past[n]? = some t) :
    c.pulseDate (n + 1) p = some ((c.movesSince n).foldl CageTime.moved (dateOf t.acc t.incr p.val 0)) := by
  simp [Clock.pulseDate, h]

/-- No tick so long ago is remembered: the anchor was not enabled then. -/
theorem Clock.pulseDate_none (c : Clock) (n : Nat) (p : Fin 16) (h : c.past.length ≤ n) : c.pulseDate (n + 1) p = none := by
  simp [Clock.pulseDate, List.getElem?_eq_none h]

/-- The pulse of the tick just ended meets the one boundary since. -/
@[simp] theorem Clock.movesSince_zero (c : Clock) : c.movesSince 0 = [c.move] := rfl

@[simp] theorem CageTime.moved_none (d : CageTime) : d.moved {} = d := rfl

/-! ### Frames and the transmitter -/

/-- What a closing condition can do (R148): the frame closes into an empty slot, or is COMPLETE. -/
theorem State.closingCondition_cases (s : State) :
    (s.pub.ready = none ∧ s.closingCondition = s.closeFrame) ∨
      (s.pub.ready ≠ none ∧
        s.closingCondition = { s with pub := { s.pub with asmState := .complete, batchTimer := none } }) := by
  by_cases h : s.pub.ready = none
  · exact .inl ⟨h, by simp [State.closingCondition, h]⟩
  · exact .inr ⟨h, by simp [State.closingCondition, h]⟩

/-- What the end of a frame on the wire can do (R150, R159). -/
theorem State.endTx_cases (s : State) (e : TxEnding) :
    (s.port.tx = none ∧ s.endTx e = s) ∨
      ∃ f, s.port.tx = some f ∧ (s.endTx e).port = { s.port with tx := none, wire := some { frame := f, ending := e } } := by
  unfold State.endTx
  split
  · exact .inl ⟨by assumption, rfl⟩
  · exact .inr ⟨_, by assumption, rfl⟩

/-- A table entry's expiry and the arbiter's gap list: the eviction keeps at most eight of nine gaps (R94). -/
theorem evictGap_length (gaps : List Gap) (h : gaps.length ≤ Config.gapLimit + 1) :
    (evictGap gaps).1.length ≤ Config.gapLimit := by
  unfold evictGap
  split
  · simp; omega
  · simp; omega

/-- The range log keeps within its size (R77). -/
theorem logInsert_length (log : List LogEntry) (x : LogEntry) : (logInsert log x).length ≤ Config.logLimit := by
  simp [logInsert]; omega

end Sys2Proof.Machine
end

