-- ==== Sys2Proof/Laws/PerInstr.lean ====
section
/-! SUPPORT. Statements made of every command, one lemma for each constructor of Instr. -/

namespace Sys2Proof.Laws

set_option Elab.async false

/-- The mnemonics of spec/opcode_table.json, in the order of its rows. -/
def tableMnemonics : List String :=
  ["POWER_ON", "LINK_UP", "LINK_LOSS", "SETTLE_TIMER_EXPIRY", "SILENCE_TIMER_EXPIRY",
   "START_DELIMITER", "FRAME_BYTE", "FRAME_END", "CLASSIFY_HAND_OFF", "LOCAL_ARRIVAL",
   "GAP_EXPIRY", "PEER_RECORD", "PULSE", "PULSE_WINDOW_EXPIRY", "STEP",
   "SECONDS_WRITE", "BEACON_TIMER_EXPIRY", "BEACON_TAKEN", "SILENCE_DEADLINE", "ROUND_END",
   "RECORD_TAKEN", "RECORD_ENTERS_FRAME", "BATCH_TIMER_EXPIRY", "MARK_FIRE", "TRANSMIT_CHOICE",
   "SEGMENT_TX_END", "SEGMENT_LINK_UP", "SEGMENT_LINK_LOSS", "SEGMENT_FRAME_RECEIVED", "DISPATCH",
   "STATUS", "FEED_REPORT", "PEER_REPORT", "CLEAR_COUNTS", "SET_SECONDS",
   "MARK", "CANCEL_MARK", "SET_ALERT_ENABLES", "ACK_ALERTS", "UNKNOWN_REQUEST",
   "IMAGE_READ_DONE", "LOCAL_TICK", "SEGMENT_START_DELIMITER"]

/-- A command's mnemonic is a row of the table. -/
def MnemonicInTable.Statement (i : Instr) : Prop := i.mnemonic ∈ tableMnemonics

theorem MnemonicInTable.powerOn (straps : Fin 16) : MnemonicInTable.Statement (.powerOn straps) := by
  simp [MnemonicInTable.Statement, Instr.mnemonic, tableMnemonics]
theorem MnemonicInTable.linkUp (line : Line) : MnemonicInTable.Statement (.linkUp line) := by
  simp [MnemonicInTable.Statement, Instr.mnemonic, tableMnemonics]
theorem MnemonicInTable.linkLoss (line : Line) : MnemonicInTable.Statement (.linkLoss line) := by
  simp [MnemonicInTable.Statement, Instr.mnemonic, tableMnemonics]
theorem MnemonicInTable.settleTimerExpiry (line : Line) : MnemonicInTable.Statement (.settleTimerExpiry line) := by
  simp [MnemonicInTable.Statement, Instr.mnemonic, tableMnemonics]
theorem MnemonicInTable.silenceTimerExpiry (line : Line) : MnemonicInTable.Statement (.silenceTimerExpiry line) := by
  simp [MnemonicInTable.Statement, Instr.mnemonic, tableMnemonics]
theorem MnemonicInTable.startDelimiter (line : Line) (phase : Fin 16) : MnemonicInTable.Statement (.startDelimiter line phase) := by
  simp [MnemonicInTable.Statement, Instr.mnemonic, tableMnemonics]
theorem MnemonicInTable.frameByte (line : Line) (byte : Byte) (codeError : Bool) : MnemonicInTable.Statement (.frameByte line byte codeError) := by
  simp [MnemonicInTable.Statement, Instr.mnemonic, tableMnemonics]
theorem MnemonicInTable.frameEnd (line : Line) : MnemonicInTable.Statement (.frameEnd line) := by
  simp [MnemonicInTable.Statement, Instr.mnemonic, tableMnemonics]
theorem MnemonicInTable.classifyHandOff (line : Line) : MnemonicInTable.Statement (.classifyHandOff line) := by
  simp [MnemonicInTable.Statement, Instr.mnemonic, tableMnemonics]
theorem MnemonicInTable.localArrival (line : Line) : MnemonicInTable.Statement (.localArrival line) := by
  simp [MnemonicInTable.Statement, Instr.mnemonic, tableMnemonics]
theorem MnemonicInTable.gapExpiry (index : Fin 32) : MnemonicInTable.Statement (.gapExpiry index) := by
  simp [MnemonicInTable.Statement, Instr.mnemonic, tableMnemonics]
theorem MnemonicInTable.peerRecord : MnemonicInTable.Statement (.peerRecord) := by
  simp [MnemonicInTable.Statement, Instr.mnemonic, tableMnemonics]
theorem MnemonicInTable.pulse (ago : Nat) (phase : Fin 16) : MnemonicInTable.Statement (.pulse ago phase) := by
  simp [MnemonicInTable.Statement, Instr.mnemonic, tableMnemonics]
theorem MnemonicInTable.pulseWindowExpiry : MnemonicInTable.Statement (.pulseWindowExpiry) := by
  simp [MnemonicInTable.Statement, Instr.mnemonic, tableMnemonics]
theorem MnemonicInTable.clockStep : MnemonicInTable.Statement (.clockStep) := by
  simp [MnemonicInTable.Statement, Instr.mnemonic, tableMnemonics]
theorem MnemonicInTable.secondsWrite : MnemonicInTable.Statement (.secondsWrite) := by
  simp [MnemonicInTable.Statement, Instr.mnemonic, tableMnemonics]
theorem MnemonicInTable.beaconTimerExpiry : MnemonicInTable.Statement (.beaconTimerExpiry) := by
  simp [MnemonicInTable.Statement, Instr.mnemonic, tableMnemonics]
theorem MnemonicInTable.beaconTaken : MnemonicInTable.Statement (.beaconTaken) := by
  simp [MnemonicInTable.Statement, Instr.mnemonic, tableMnemonics]
theorem MnemonicInTable.silenceDeadline (station : Fin 16) : MnemonicInTable.Statement (.silenceDeadline station) := by
  simp [MnemonicInTable.Statement, Instr.mnemonic, tableMnemonics]
theorem MnemonicInTable.roundEnd : MnemonicInTable.Statement (.roundEnd) := by
  simp [MnemonicInTable.Statement, Instr.mnemonic, tableMnemonics]
theorem MnemonicInTable.recordTaken (maker : Maker) : MnemonicInTable.Statement (.recordTaken maker) := by
  simp [MnemonicInTable.Statement, Instr.mnemonic, tableMnemonics]
theorem MnemonicInTable.recordEntersFrame : MnemonicInTable.Statement (.recordEntersFrame) := by
  simp [MnemonicInTable.Statement, Instr.mnemonic, tableMnemonics]
theorem MnemonicInTable.batchTimerExpiry : MnemonicInTable.Statement (.batchTimerExpiry) := by
  simp [MnemonicInTable.Statement, Instr.mnemonic, tableMnemonics]
theorem MnemonicInTable.markFire : MnemonicInTable.Statement (.markFire) := by
  simp [MnemonicInTable.Statement, Instr.mnemonic, tableMnemonics]
theorem MnemonicInTable.transmitChoice (phase : Fin 16) (upsets : List Upset) : MnemonicInTable.Statement (.transmitChoice phase upsets) := by
  simp [MnemonicInTable.Statement, Instr.mnemonic, tableMnemonics]
theorem MnemonicInTable.segmentTxEnd : MnemonicInTable.Statement (.segmentTxEnd) := by
  simp [MnemonicInTable.Statement, Instr.mnemonic, tableMnemonics]
theorem MnemonicInTable.segmentLinkUp : MnemonicInTable.Statement (.segmentLinkUp) := by
  simp [MnemonicInTable.Statement, Instr.mnemonic, tableMnemonics]
theorem MnemonicInTable.segmentLinkLoss : MnemonicInTable.Statement (.segmentLinkLoss) := by
  simp [MnemonicInTable.Statement, Instr.mnemonic, tableMnemonics]
theorem MnemonicInTable.segmentFrameReceived (bytes : List Byte) (codeError : Bool) : MnemonicInTable.Statement (.segmentFrameReceived bytes codeError) := by
  simp [MnemonicInTable.Statement, Instr.mnemonic, tableMnemonics]
theorem MnemonicInTable.dispatch (straps : Fin 16) : MnemonicInTable.Statement (.dispatch straps) := by
  simp [MnemonicInTable.Statement, Instr.mnemonic, tableMnemonics]
theorem MnemonicInTable.status (part : Option Block) : MnemonicInTable.Statement (.status part) := by
  simp [MnemonicInTable.Statement, Instr.mnemonic, tableMnemonics]
theorem MnemonicInTable.feedReport : MnemonicInTable.Statement (.feedReport) := by
  simp [MnemonicInTable.Statement, Instr.mnemonic, tableMnemonics]
theorem MnemonicInTable.peerReport : MnemonicInTable.Statement (.peerReport) := by
  simp [MnemonicInTable.Statement, Instr.mnemonic, tableMnemonics]
theorem MnemonicInTable.clearCounts (part : Option Block) : MnemonicInTable.Statement (.clearCounts part) := by
  simp [MnemonicInTable.Statement, Instr.mnemonic, tableMnemonics]
theorem MnemonicInTable.setSeconds : MnemonicInTable.Statement (.setSeconds) := by
  simp [MnemonicInTable.Statement, Instr.mnemonic, tableMnemonics]
theorem MnemonicInTable.mark : MnemonicInTable.Statement (.mark) := by
  simp [MnemonicInTable.Statement, Instr.mnemonic, tableMnemonics]
theorem MnemonicInTable.cancelMark : MnemonicInTable.Statement (.cancelMark) := by
  simp [MnemonicInTable.Statement, Instr.mnemonic, tableMnemonics]
theorem MnemonicInTable.setAlertEnables : MnemonicInTable.Statement (.setAlertEnables) := by
  simp [MnemonicInTable.Statement, Instr.mnemonic, tableMnemonics]
theorem MnemonicInTable.ackAlerts : MnemonicInTable.Statement (.ackAlerts) := by
  simp [MnemonicInTable.Statement, Instr.mnemonic, tableMnemonics]
theorem MnemonicInTable.unknownRequest : MnemonicInTable.Statement (.unknownRequest) := by
  simp [MnemonicInTable.Statement, Instr.mnemonic, tableMnemonics]
theorem MnemonicInTable.imageReadDone (flash : List Byte) : MnemonicInTable.Statement (.imageReadDone flash) := by
  simp [MnemonicInTable.Statement, Instr.mnemonic, tableMnemonics]
theorem MnemonicInTable.localTick : MnemonicInTable.Statement (.localTick) := by
  simp [MnemonicInTable.Statement, Instr.mnemonic, tableMnemonics]
theorem MnemonicInTable.segmentStartDelimiter (phase : Fin 16) : MnemonicInTable.Statement (.segmentStartDelimiter phase) := by
  simp [MnemonicInTable.Statement, Instr.mnemonic, tableMnemonics]

end Sys2Proof.Laws
end

