-- ==== Sys2Proof/Tests/Slice0.lean ====
section
/-! SUPPORT. Tests on fixed values, their expected results taken from the manual's worked sequences or reckoned by hand from its
rules, and for each statement a state and operands that meet its hypotheses. -/

namespace Sys2Proof.Tests

open Sys2Proof Sys2Proof.Machine

set_option Elab.async false

/-! ### Helpers -/

/-- The state a command answers; none where it answers no next state. -/
def after (c : Instr) (s : State) : Option State :=
  match exec c s with
  | .next t => some t
  | .fault _ => none
  | .refused _ => none

/-- The commands in turn. -/
def run (cs : List Instr) (s : State) : Option State := cs.foldl (fun o c => o.bind (after c)) (some s)

/-- A cage time of seconds, nanoseconds and quarter. -/
def ct (sec ns q : Nat) : CageTime := { sec := sec, ns := ns, quarter := q }

/-- An image of default fields that enables every condition. -/
def cfg : ImageCfg :=
  { cageNumber := 1, typeCode := 0x88B6, group := 0x030000000001, beaconMs := 4, agreeNs := 200, maxSlew := 50000,
    minDelayNs := 50, maxDelayUs := 100, anchorEnabled := true, captureUs := 50, batchUs := 4, enables := BitVec.allOnes 15,
    lines := PerLine.all {} }

/-- The two feeds of section 4.7. -/
def feed40 : FeedCfg :=
  { feed := 40, group := 0xE9360C28, port := 20040, aLine := 0, bLine := none, seqOffset := 0, seqWidth := 8, order := .big,
    countOffset := some 8, carriage := .header, gapHoldUs := 2000, jumpLimit := 100000, rewind := 1000000 }
def feed41 : FeedCfg :=
  { feed := 41, group := 0xE9360C29, port := 20041, aLine := 1, bLine := some 2, seqOffset := 4, seqWidth := 4, order := .little,
    countOffset := none, carriage := .full, gapHoldUs := 2000, jumpLimit := 100000, rewind := 1000000 }

/-- Station 2 in a state with an image in force, at local tick 1,000,000 and cage time 9 s. -/
def at2 (st : StationState) : State :=
  { State.reset with
    loader := { state := st, station := 2, identity := 0x02A0B0C0D0E2, imageStatus := .accepted, config := some cfg },
    clock := { tick := 1000000, acc := { sec := 9, units := 0 }, anchor := { state := .seeking, window := some 2000000 } },
    agr := { beaconTimer := some 1000000, roundTimer := some 1000000 },
    feeds := [{ cfg := feed40 }, { cfg := feed41 }],
    port := { link := .up },
    req := { enabled := BitVec.allOnes 15 } }

/-- The same with one line replaced. -/
def withLine (s : State) (i : Line) (l : LineRx) : State := { s with lines := s.lines.set i l }

/-- A live line whose silence timer is due at the present tick of `at2`. -/
def liveLine : LineRx := { state := .live, silenceTimer := some 1000000 }

/-- A request of a code and argument bytes. -/
def request (code : Nat) (args : List Byte) : Request := { code := code, requester := 7, tag := 9, args := args }

/-- The same state with a request at the head. -/
def asked (s : State) (code : Nat) (args : List Byte) : State :=
  { s with req := { s.req with queue := [request code args] } }

/-- The result and data of the last response. -/
def answered (s : State) : Option (Result × List Byte) := s.req.responses.getLast?.map (fun p => (p.result, p.data))

/-- The first payload bytes `bs` in a UDP frame of payload length `len` to a group and port (R60 to R62). -/
def udpFrame (group port len : Nat) (bs : List Byte) : List Byte :=
  zeros 12 ++ [0x08, 0x00, 0x45] ++ zeros 8 ++ [0x11] ++ zeros 6 ++ toBE 4 group ++ zeros 2 ++ toBE 2 port ++
    toBE 2 (len + 8) ++ zeros 2 ++ bs

/-- A hand-off of a line with a window, that passed its frame check. -/
def handOff (i : Line) (window : List Byte) : HandOff :=
  { line := i, date := ct 9 100 0, length := 200, cause := none, window := window, chain := none, captured := 196,
    truncated := false }

/-! ### Well-formed commands -/

/-- The one check there is: an upset past the 16 records or past a chain's bytes is refused. -/
theorem test_wellFormed_refuses_record :
    Instr.wellFormed (.transmitChoice 0 [{ record := 16, byte := 0 }]) = false := by decide
theorem test_wellFormed_refuses_byte :
    Instr.wellFormed (.transmitChoice 0 [{ record := 0, byte := 1536 }]) = false := by decide
theorem test_wellFormed_takes :
    Instr.wellFormed (.transmitChoice 0 [{ record := 15, byte := 1535 }]) = true := by decide

/-! ### The frame check sequence, and cage times -/

/-- R8: the CRC-32 of Ethernet of the nine digits is 0xCBF43926. -/
theorem test_crc32 : crc32 [0x31, 0x32, 0x33, 0x34, 0x35, 0x36, 0x37, 0x38, 0x39] = 0xCBF43926#32 := by decide +kernel

/-- The worked dates of section 2.7, all four. -/
theorem test_date_trimmed :
    dateOf { sec := 1234, units := 567890120 * 4294967296 } (17179869184 + 21475) 11 1249 = ct 1234 567889810 2 := by decide +kernel
theorem test_date_borrows : dateOf { sec := 77, units := 100 * 4294967296 } 17179869184 6 2000 = ct 76 999999601 2 := by decide +kernel
theorem test_date_tie :
    dateOf { sec := 500, units := 2000 * 4294967296 + 536870912 } 17179869184 0 0 = ct 500 2000 1 := by decide +kernel
theorem test_date_clamped : dateOf { sec := 0, units := 200 * 4294967296 } 17179869184 0 1000 = ct 0 0 0 := by decide +kernel

/-- R19 and the worked round: A of 2,304 ppb is 39,582, of 1,250 ppb 21,475. -/
theorem test_rateAdjust : rateAdjust 2304 = 39582 ∧ rateAdjust 1250 = 21475 ∧ rateAdjust (-1250) = -21475 := by decide

/-- The worked sample of section 3.6. -/
theorem test_sample :
    sampleOffset (ct 900 100000 0) (ct 900 100360 0) (ct 900 4100000 0) (ct 900 4100440 1) = -160 ∧
    sampleDelay (ct 900 100000 0) (ct 900 100360 0) (ct 900 4100000 0) (ct 900 4100440 1) = 1600 := by decide +kernel

/-- The worked round of section 3.8: offsets, correction and rates. -/
theorem test_round :
    midpointSpread (trimOffsets [0, 480, -160, 1200, 40]) = (240, 480) ∧ correctionRate 240 4 = 937 ∧
    (({ freq := 1250 } : Clock).steer 240 4 50000).freq = 1367 ∧ (({ freq := 1250 } : Clock).steer 240 4 50000).slew = 937 := by
  decide +kernel

/-! ### Lines (section 1.9) -/

theorem test_linkUp : (after (.linkUp 5) (at2 .serving)).map (fun t => ((t.lines.get 5).state, (t.lines.get 5).settleTimer)) =
    some (.settling, some 26000000) := by decide +kernel

/-- A cut frame: counted, its two pages released, LINE_DOWN raised. -/
theorem test_linkLoss :
    (run [.linkLoss 5] { withLine (at2 .serving) 5 { liveLine with
        frame := some { cls := .live, mark := true, date := ct 9 0 0,
                        chain := some { line := 5, stored := 300, pages := [[], []] } } } with
      pool := { free := 4094, held := (PerLine.all 0).set 5 2 } }).map
      (fun t => ((t.lines.get 5).state, (t.lines.get 5).cut, t.pool.free, t.pool.held.get 5, t.req.set)) =
      some (.down, 1, 4096, 0, 1) := by decide +kernel

theorem test_settleTimer :
    (after (.settleTimerExpiry 5) (withLine (at2 .serving) 5
      { state := .settling, settleErrors := 1, settleTimer := some 1000000 })).map (fun t => ((t.lines.get 5).state, t.req.set)) =
      some (.faulted, 2) := by decide +kernel

theorem test_silenceTimer : (after (.silenceTimerExpiry 1) (withLine (at2 .serving) 1 liveLine)).map
    (fun t => ((t.lines.get 1).state, t.req.set)) = some (.silent, 4) := by decide +kernel

theorem test_startDelimiter : (after (.startDelimiter 1 6) (withLine (at2 .serving) 1 liveLine)).map
    (fun t => (t.lines.get 1).frame.map (fun f => (f.cls, f.mark, f.date, f.chain.isSome))) =
    some (some (.live, true, ct 9 1 2, true)) := by decide +kernel

/-- The first byte of a frame on a FULL line takes a page (R125). -/
theorem test_frameByte : (run [.startDelimiter 1 0, .frameByte 1 0xAB false] (withLine (at2 .serving) 1 liveLine)).map
    (fun t => (t.pool.free, t.pool.held.get 1, t.pool.low)) = some (4095, 1, 4095) := by decide +kernel

/-- A frame of one byte fails its check with cause FCS and is handed on marked (R8, R10). -/
theorem test_frameEnd : (run [.startDelimiter 1 0, .frameByte 1 0xAB false, .frameEnd 1] (withLine (at2 .serving) 1 liveLine)).map
    (fun t => (t.handOffs.map (fun h => (h.length, h.cause)), (t.lines.get 1).frames, (t.lines.get 1).fcsErrors)) =
    some ([(1, some .fcs)], 1, 1) := by decide +kernel

/-! ### The Feed Classifier (section 4.7) -/

/-- Hand-off 2: the little-endian sequence 77,000 with the count 1. -/
theorem test_classify_range : (after (.classifyHandOff 1) { at2 .serving with
      handOffs := [handOff 1 (udpFrame 0xE9360C29 20041 120 [0, 0, 0, 0, 0xC8, 0x2C, 0x01, 0x00])] }).map
    (fun t => t.arrivals.map (fun a => (a.feed, a.first, a.count))) = some [(41, 77000, 1)] := by decide +kernel

/-- Hand-off 3: STRAY of feed 40 on line 2, its range carried. -/
theorem test_classify_stray : (after (.classifyHandOff 2) { at2 .serving with
      handOffs := [handOff 2 (udpFrame 0xE9360C28 20040 40 (toBE 8 1005 ++ toBE 2 5))] }).map
    (fun t => (t.feeds.map (fun f => f.stray), t.pub.fromClassifier.map (fun r => match r with
      | .arrival a => (a.verdict.code, a.first, a.count)
      | .yielded _ _ _ _ _ _ | .lost _ _ _ _ _ | .summary _ _ | .mark _ _ _ _ => (0, 0, 0)))) =
    some ([1, 0], [(11, 1005, 5)]) := by decide +kernel

/-! ### Tables (section 5.7) -/

/-- The eight gaps of section 5.7 at H = 2,000, with a log of 63 entries apart from one another, the oldest 900 to 904; N is
1,000,000. -/
def table57 : Table :=
  let g := fun (a b opened deadline : Nat) => ({ first := a, last := b, opened := opened, deadline := deadline } : Gap)
  let w : Winner := { station := 2, line := 0, date := ct 60 0 0 }
  { high := some 2000,
    gaps := [g 1100 1104 580000 1080000, g 1200 1209 620000 1120000, g 1300 1300 700000 1200000, g 1400 1449 740000 1240000,
             g 1500 1519 800000 1300000, g 1600 1603 850000 1350000, g 1700 1799 900000 1400000, g 1900 1949 960000 1460000],
    log := { first := 900, last := 904, kind := .localClaim, winner := some w } ::
      (List.range 62).map (fun i => { first := 905 + 3 * i, last := 907 + 3 * i, kind := .localClaim, winner := some w }) }

/-- The arrival 1,720 to 1,729 at N: FILL, the split, the eviction of 1,100 to 1,104 and the loss of the oldest entry. -/
theorem test_split57 :
    let j := table57.judge feed40 1720 10 { station := 2, line := 0, date := ct 61 400000 0 } 1000000
    j.verdict = .fill ∧ j.losses = [{ first := 1100, last := 1104, cause := .evicted }] ∧
    j.table.gaps.map (fun g => (g.first, g.last)) =
      [(1200, 1209), (1300, 1300), (1400, 1449), (1500, 1519), (1600, 1603), (1700, 1719), (1730, 1799), (1900, 1949)] ∧
    j.table.log.length = 64 ∧ (j.table.entryAt 902).isNone ∧
    (j.table.log.getLast?.map (fun x => (x.first, x.last))) = some (1720, 1729) := by decide +kernel

/-- The state with that table at map index 0. -/
def tabled : State := { at2 .serving with feeds := [{ cfg := feed40, table := table57 }, { cfg := feed41 }] }

theorem test_localArrival : (after (.localArrival 0) { tabled with
      arrivals := [{ index := 0, feed := 40, line := 0, date := ct 61 400000 0, first := 902, count := 1, length := 100,
                     chain := none, captured := 96, truncated := false }] }).map
    (fun t => (t.arrivals.length, t.pub.fromArbiter.length, (t.feeds[0]?).map (fun f => f.table.counts.duplicate))) =
    some (0, 1, some 1) := by decide +kernel

/-- The gap 1,100 to 1,104 at its deadline (R95). -/
theorem test_gapExpiry : (after (.gapExpiry 0) { tabled with clock := { tabled.clock with tick := 1080000 } }).map
    (fun t => ((t.feeds[0]?).map (fun f => (f.table.gaps.length, f.table.counts.expired)), t.pub.fromArbiter.length, t.req.set)) =
    some (some (7, 1), 1, 8) := by decide +kernel

/-- An ARRIVAL record of 64 bytes as a peer publishes it (section 12.4): verdict FIRST, feed 40, line 1, sequences 2,000 to
2,004, dated 61 s. -/
def claimRecord : List Byte :=
  [1, 1, 0, 64, 40, 0, 1, 0] ++ toBE 8 2000 ++ [0, 5, 0, 100, 0, 0, 0, 0] ++ toBE 6 61 ++ toBE 4 0 ++ zeros 30

/-- A peer claim above H is entered (R108). -/
theorem test_peerRecord : (after .peerRecord { tabled with
      arbiter := { frame := some { station := 6, records := [claimRecord] } } }).map
    (fun t => ((t.feeds[0]?).map (fun f => (f.table.high, f.table.peer.entered)), t.arbiter.frame)) =
    some (some (some 2005, 1), none) := by decide +kernel

/-! ### The Station Clock -/

theorem test_localTick : (after .localTick (at2 .serving)).map (fun t => (t.clock.tick, t.clock.reading)) =
    some (1000001, ct 9 4 0) := by decide +kernel

/-- A step of minus one second and a quarter at its boundary, which takes a waiting station into SERVING (R22, R53). -/
theorem test_step : (after .clockStep { at2 .acquire with
      clock := { (at2 .acquire).clock with pendingStep := some { correction := -4000000001, due := true } },
      agr := { (at2 .acquire).agr with servingAfterStep := some .agreed } }).map
    (fun t => (t.clock.reading, t.loader.state, t.agr.agreement)) = some (ct 7 999999999 3, .serving, .agreed) := by decide +kernel

theorem test_secondsWrite : (after .secondsWrite { asked (at2 .listen) 5 (toBE 8 100) with
      clock := { (at2 .listen).clock with pendingSeconds := some { value := 100, due := true } } }).map
    (fun t => (t.clock.reading, t.req.latch, answered t)) =
    some (ct 100 0 0, true, some (.ok, [0, 0, 0, 0, 0, 9, 0, 0, 0, 0, 0, 100])) := by decide +kernel

/-- Section 2.8: the good pulse of +1,361 quarters, and the bad one of +320,000. -/
theorem test_pulse : (({ state := .seeking } : Anchor).pulse 50 (ct 302 340 1) 0).goodRun = 1 ∧
    (({ state := .locked, failedRun := 1 } : Anchor).pulse 50 (ct 307 80000 0) 0).failedRun = 2 := by decide +kernel

/-- A pulse sampled two ticks ago, a step of one second and a tick between (R22): its date is moved by the step. -/
theorem test_pulse_late :
    (run [.localTick, .clockStep, .localTick, .pulse 2 0] { at2 .serving with
      clock := { (at2 .serving).clock with pendingStep := some { correction := 4000000000, due := false } } }).map
      (fun t => (t.clock.anchor.latest, t.clock.reading)) = some (some (ct 10 0 0), ct 10 8 0) := by decide +kernel

/-- The third failed window of a LOCKED anchor (section 2.8). -/
theorem test_pulseWindow : (after .pulseWindowExpiry { at2 .serving with
      clock := { (at2 .serving).clock with anchor := { state := .locked, failedRun := 2, window := some 1000000 } } }).map
    (fun t => (t.clock.anchor.state, t.clock.anchor.failed, t.req.set)) = some (.lost, 1, 0x800) := by decide +kernel

/-! ### The Agreement Unit -/

theorem test_beaconTimer : (after .beaconTimerExpiry (at2 .listen)).map (fun t => (t.agr.beaconDue, t.agr.beaconTimer)) =
    some (true, some 2000000) := by decide +kernel

/-- A beacon of station `n` and identity `id` that reports SERVING. -/
def beacon (n : Nat) (id : Identity) : Beacon :=
  { station := n, identity := id, state := 5, agreement := 4, anchor := 1, spread := 3, number := 8, departure := ct 9 0 0,
    echoes := [] }

/-- That beacon handed to the Agreement Unit at local tick `tick`. -/
def heardFrom (s : State) (n : Nat) (id : Identity) (tick : Nat) : State :=
  { s with agr := { s.agr with inbox := some { beacon := beacon n id, arrival := ct 9 360 0, tick := tick, stale := false } } }

theorem test_beaconTaken_new : (after .beaconTaken (heardFrom (at2 .listen) 5 0x5A 1000000)).map
    (fun t => t.agr.peers.map (fun p => (p.station, p.state, p.deadline, p.counts.heard))) =
    some [(5, .heard, 5000000, 1)] := by decide +kernel

/-- The station's own number under a smaller identity (R38, R39): a record handed over and not yet taken goes (R72). -/
theorem test_beaconTaken_conflict : (after .beaconTaken { heardFrom (at2 .serving) 2 0x5A 1000000 with
      pub := { fromClassifier := [.mark 1 (ct 0 0 0) (ct 0 0 0) false] } }).map
    (fun t => ((t.loader.state, t.agr.beaconTimer), t.req.set, t.pub.fromClassifier)) =
    some ((.conflict, none), 0x1000, []) := by decide +kernel

/-- A peer of number 5 in a state, whose deadline is the present tick. -/
def peer5 (st : EntryState) : Peer := { station := 5, identity := 0x5A, state := st, deadline := 1000000 }

/-- That peer alone in the table. -/
def peered (s : State) (p : Peer) : State := { s with agr := { s.agr with peers := [p] } }

theorem test_silenceDeadline_falls : (after (.silenceDeadline 5) (peered (at2 .serving) (peer5 .paired))).map
    (fun t => t.agr.peers.map (fun p => (p.state, p.deadline))) = some [(.silent, 33000000)] := by decide +kernel
theorem test_silenceDeadline_gone : (after (.silenceDeadline 5) (peered (at2 .serving) (peer5 .silent))).map
    (fun t => (t.agr.peers.length, t.req.set)) = some (0, 0x100) := by decide +kernel

/-- The third round end of LISTEN (R52), and ACQUIRE with neither peer nor pulse (R53). -/
theorem test_roundEnd_listen : (after .roundEnd { at2 .listen with agr := { (at2 .listen).agr with roundCount := 2 } }).map
    (fun t => (t.loader.state, t.agr.roundTimer)) = some (.acquire, some 17000000) := by decide +kernel
theorem test_roundEnd_acquire : (after .roundEnd (at2 .acquire)).map (fun t => (t.loader.state, t.agr.agreement)) =
    some (.serving, .alone) := by decide +kernel

/-! ### The Publisher (section 8.4) -/

/-- An ARRIVAL record of feed 41 with `held` bytes in a chain of one page of line 1. -/
def arrival (v : Verdict) (held : Nat) : Record :=
  .arrival { verdict := v, feed := some 41, line := 1, first := 5, count := 1, date := ct 9 4000 0, length := 100,
             captured := held, truncated := false,
             chain := some { line := 1, pages := [List.replicate held (Cell.write 7)], stored := held, held := some held } }

/-- A Publisher in a state with a queue of `n` MARK records and a record waiting from the arbiter; one page of line 1 held. -/
def queued (st : PubState) (n : Nat) (r : Record) : State :=
  { at2 .serving with
    pub := { queue := List.replicate n (.mark 0 (ct 0 0 0) (ct 0 0 0) false), state := st, fromArbiter := [r] },
    pool := { free := 4095, held := (PerLine.all 0).set 1 1 } }

theorem test_recordTaken_sheds : (after (.recordTaken .arbiter) (queued .shedding 300 (arrival .duplicate 64))).map
    (fun t => (t.pub.queue.length, t.pool.free, t.feeds.map (fun f => f.shed.duplicate))) = some (300, 4096, [0, 1]) := by
  decide +kernel
theorem test_recordTaken_enters : (after (.recordTaken .arbiter) (queued .normal 767 (arrival .duplicate 64))).map
    (fun t => (t.pub.queue.length, t.pub.state, t.pool.free, t.req.set)) = some (768, .shedding, 4095, 0x10) := by decide +kernel

/-- The fall to 256 with shed counts in one feed (R145). -/
theorem test_recordEntersFrame : (after .recordEntersFrame { queued .shedding 257 (arrival .fill 64) with
      feeds := [{ cfg := feed40, shed := { stale := 1 } }, { cfg := feed41 }] }).map
    (fun t => (t.pub.state, t.pub.queue.length, t.pub.asm.length, t.pub.batchTimer, t.pub.counts.summaries)) =
    some (.normal, 257, 1, some 1001000, 1) := by decide +kernel

/-- A FILLING frame of one MARK record whose batch timer is due. -/
def filling : State :=
  { at2 .serving with pub := { asm := [.mark 1 (ct 0 0 0) (ct 9 0 0) false], asmState := .filling, batchTimer := some 1000000,
                               frameNumber := 4294967295, drop := 3 } }

theorem test_batchTimer : (after .batchTimerExpiry filling).map
    (fun t => (t.pub.asmState, t.pub.ready.map (fun f => (f.number, f.drop)), t.pub.frameNumber, t.pub.drop)) =
    some (.empty, some (4294967295, 3), 0, 0) := by decide +kernel

/-- The state with an armed mark. -/
def armed (sec : Nat) : State := { at2 .serving with pub := { mark := some { target := ct sec 0 0, tag := 77 } } }

theorem test_markFire : (after .markFire (armed 9)).map (fun t => (t.pub.mark, t.pub.fromMarks)) =
    some (none, [.mark 77 (ct 9 0 0) (ct 9 0 0) false]) := by decide +kernel
theorem test_markWaits : (after .markFire (armed 10)).map (fun t => t.pub.mark.isSome) = some true := by decide +kernel

/-! ### The segment port -/

/-- A beacon's frame is 64 bytes at the least, its number at content offset 4 (sections 12.2, 12.3). -/
theorem test_transmit_beacon : (after (.transmitChoice 0 []) { at2 .listen with
      agr := { (at2 .listen).agr with beaconDue := true, beaconNumber := 258 } }).map
    (fun t => (t.port.tx.map (fun f => (f.bytes.length, slice f.bytes 12 5, slice f.bytes 26 8)), t.agr.beaconNumber)) =
    some (some (64, [0x88, 0xB6, 1, 2, 0], [3, 1, 2, 0, 0, 0, 1, 2]), 259) := by decide +kernel

/-- A publication frame whose one record's payload is faulted goes out with 64 bytes of record (R133). -/
theorem test_transmit_fault : (after (.transmitChoice 0 [{ record := 0, byte := 63 }]) { queued .normal 0 (arrival .fill 64) with
      pub := { ready := some { station := 2, identity := 0x02A0B0C0D0E2, number := 1, agreement := .alone, spread := 0, drop := 0,
                               records := [arrival .fill 64] } } }).map
    (fun t => (t.port.tx.map (fun f => f.bytes.length), t.pool.free, t.pool.storeFaults, t.req.set)) =
    some (some (26 + 16 + 64 + 4), 4096, 1, 0x80) := by decide +kernel

/-- A frame on the wire. -/
def sending (k : FrameKind) : State := { at2 .serving with port := { link := .up, tx := some { kind := k, bytes := [] } } }

theorem test_segmentTxEnd : (after .segmentTxEnd (sending .publication)).map
    (fun t => (t.port.tx, t.pub.counts.framesSent)) = some (none, 1) := by decide +kernel
theorem test_segmentLinkUp : (after .segmentLinkUp State.reset).map (fun t => t.port.link) = some .up := by decide +kernel
theorem test_segmentLinkLoss : (after .segmentLinkLoss (sending .publication)).map
    (fun t => (t.port.link, t.port.tx, t.pub.counts.framesAbandoned, t.port.counts.linkLosses)) = some (.down, none, 1, 1) := by
  decide +kernel

/-- A whole segment frame of a kind and content, from station 6 of identity 0x6A, to the group of `cfg`. -/
def segmentFrame (kind : Nat) (content : List Byte) : List Byte :=
  withFcs (padFrame (toBE 6 0x030000000001 ++ toBE 6 0x6A ++ [0x88, 0xB6, BitVec.ofNat 8 kind, 6, 0, 1] ++ toBE 6 0x6A ++
    toBE 2 content.length ++ content))

/-- That frame in the receive queue. -/
def received (s : State) (kind : Nat) (content : List Byte) : State :=
  let bytes := segmentFrame kind content
  { s with port := { s.port with rxQueue := [{ bytes := bytes.take (bytes.length - 4), date := ct 9 0 0 }] } }

/-- The frame received: it passes every test. -/
theorem test_segmentFrameReceived :
    (run [.segmentStartDelimiter 0, .segmentFrameReceived (segmentFrame 1 []) false] (at2 .listen)).map
      (fun t => (t.port.rxQueue.map (fun f => (f.bytes.length, f.date)), t.port.counts.rxAccepted)) =
      some ([(60, ct 9 0 0)], 1) := by decide +kernel

/-- A request content: target, code, requester, tag, arguments (section 12.5). -/
def requestContent (target code : Nat) (args : List Byte) : List Byte :=
  toBE 1 target ++ toBE 1 code ++ toBE 6 7 ++ toBE 4 9 ++ args

/-- A request for every station; a publication frame too short for its header waits, as its kind does, while the arbiter holds a frame (R164), and is counted
as malformed once the arbiter is free (R165). -/
theorem test_dispatch :
    (after (.dispatch 0) (received (at2 .listen) 3 (requestContent 255 2 [0, 40]))).map
      (fun t => (t.req.queue, t.req.counts.received)) = some ([request 2 [0, 40]], 1) ∧
    let s := received (at2 .serving) 2 (zeros 15)
    (after (.dispatch 0) { s with arbiter := { frame := some { station := 6, records := [[]] } } }).map
      (fun t => (t.port.rxQueue.length, t.port.counts.rxMalformed)) = some (1, 0) ∧
    (after (.dispatch 0) s).map (fun t => (t.port.rxQueue.length, t.port.counts.rxMalformed)) = some (0, 1) := by decide +kernel

/-- Section 10.8: a RESTART with one request queued. -/
theorem test_dispatch_restart : (after (.dispatch 9) (asked (received (at2 .serving) 3 (requestContent 2 10 [])) 1 [])).map
    (fun t => (t.loader.state, t.loader.station, t.loader.restarts, t.req.responses.map (fun p => (p.code, p.result)))) =
    some (.loading, 9, 1, [(1, .flushed), (10, .ok)]) := by decide +kernel

/-- Section 9.5: numbers 45 after 42, the wrap, and 0 after a restart. -/
theorem test_frameNumbers :
    (({ station := 6, identity := 0x6A, lastPubFrame := some 42 } : Peer).checkNumber 45).counts.missedFrames = 2 ∧
    (({ station := 6, identity := 0x6A, lastPubFrame := some 4294967295 } : Peer).checkNumber 0).counts.missedFrames = 0 ∧
    (({ station := 6, identity := 0x6A, lastPubFrame := some 45 } : Peer).checkNumber 0).counts.numberFalls = 1 := by decide +kernel

/-! ### Requests -/

/-- A STATUS whose Loader reports last (R175): its part is the first of the report all the same, item 1.1, length 1, SERVING,
three zeros (R199), and the response is formed when all 16 parts have come back. -/
theorem test_status :
    (run (((statusBlocks.drop 1 ++ [Block.loader]).map (fun b => .status (some b))) ++ [.status none]) (asked (at2 .serving) 1 [])).map
      (fun t => ((answered t).map (fun p => (p.1, p.2.take 8)), t.req.parts, t.req.queue)) =
      some (some (.ok, [1, 1, 0, 1, 5, 0, 0, 0]), [], []) := by decide +kernel

/-- A STATUS cut by the conflict after one block has reported (R174): FLUSHED, and no part is left. -/
theorem test_status_flushed :
    (run [.status (some .clock), .beaconTaken, .status (some .pool)] (heardFrom (asked (at2 .serving) 1 []) 2 0x5A 1000000)).map
      (fun t => (answered t, t.req.parts, t.loader.state)) = some (some (.flushed, []), [], .conflict) := by decide +kernel

/-- The report of a GAPPED table: state item, then the nine-byte high mark 2,000 with three zeros. -/
theorem test_feedReport : (after .feedReport (asked tabled 2 [0, 40])).map (fun t => (answered t).map (fun p => p.2.take 24)) =
    some (some [1, 1, 0, 1, 3, 0, 0, 0, 1, 2, 0, 9, 0, 0, 0, 0, 0, 0, 0, 7, 0xD0, 0, 0, 0]) := by decide +kernel

theorem test_feedReport_unmapped : (after .feedReport (asked tabled 2 [0, 42])).map answered = some (some (.badArgument, [])) := by
  decide +kernel

theorem test_peerReport_empty : (after .peerReport (asked (at2 .listen) 3 [])).map answered = some (some (.ok, [])) := by
  decide +kernel
theorem test_peerReport : (after .peerReport (asked (peered (at2 .listen) (peer5 .heard)) 3 [])).map
    (fun t => (answered t).map (fun p => p.2.take 8)) = some (some [1, 1, 0, 2, 1, 5, 0, 0]) := by decide +kernel

/-- A station with pool and segment port counters and a CLEAR_COUNTS at the head. -/
def clearing : State :=
  asked { at2 .serving with
    pool := { free := 4000, low := 100, poolRefusals := 3, held := (PerLine.all 0).set 1 96 },
    port := { link := .up, counts := { rxAccepted := 5 } } } 4 []

theorem test_clearCounts : (run (countingBlocks.map (fun b => .clearCounts (some b)) ++ [.clearCounts none]) clearing).map
    (fun t => ((t.pool.low, t.pool.poolRefusals), t.port.counts.rxAccepted, answered t)) = some ((4000, 0), 0, some (.ok, [])) := by
  decide +kernel

/-- A CLEAR_COUNTS cut by the conflict after the Page Pool has zeroed (R174, R177): the pool's counters stay zeroed, the segment
port's are untouched, and the request is answered FLUSHED. -/
theorem test_clearCounts_flushed :
    (run [.clearCounts (some .pool), .beaconTaken, .clearCounts (some .port)] (heardFrom clearing 2 0x5A 1000000)).map
      (fun t => (t.pool.poolRefusals, t.port.counts.rxAccepted, answered t)) = some (0, 5, some (.flushed, [])) := by decide +kernel

theorem test_setSeconds : (after .setSeconds (asked (at2 .listen) 5 (toBE 8 100))).map
    (fun t => (t.clock.pendingSeconds, t.req.queue.length)) = some (some { value := 100 }, 1) := by decide +kernel
theorem test_setSeconds_high : (after .setSeconds (asked (at2 .listen) 5 (toBE 8 281474976710656))).map answered =
    some (some (.badArgument, [])) := by decide +kernel

/-- A late MARK in place of an armed one: REPLACED and FIRED_LATE, one record. -/
theorem test_mark_late : (after .mark (asked (armed 10) 6 (toBE 6 8 ++ toBE 4 0 ++ toBE 4 5))).map
    (fun t => (answered t, t.pub.mark, t.pub.fromMarks)) =
    some (some (.replaced, [2]), none, [.mark 5 (ct 8 0 0) (ct 9 0 0) true]) := by decide +kernel

theorem test_cancelMark : (after .cancelMark (asked (armed 10) 7 [])).map (fun t => (answered t, t.pub.mark)) =
    some (some (.ok, []), none) := by decide +kernel
theorem test_cancelMark_none : (after .cancelMark (asked (at2 .serving) 7 [])).map answered = some (some (.noneArmed, [])) := by
  decide +kernel

/-- SPREAD set and disabled, then enabled: the gate closes with one ALERT pending (R180, R182). -/
theorem test_setAlertEnables : (after .setAlertEnables (asked { at2 .serving with req := { set := 0x400 } } 8 [0, 0, 4, 0])).map
    (fun t => (t.req.gateOpen, t.req.alertPending, answered t)) = some (false, true, some (.ok, [0, 0, 4, 0])) := by decide +kernel

theorem test_ackAlerts : (after .ackAlerts (asked { at2 .serving with
      req := { set := 0x3, fresh := 0x1, enabled := 0x2, gateOpen := false } } 9 [0, 0, 0, 1])).map
    (fun t => ((t.req.set, t.req.fresh), (t.req.gateOpen, t.req.alertPending), answered t)) =
    some ((2, 0), (false, true), some (.ok, [0, 0, 0, 2])) := by decide +kernel

theorem test_unknownRequest : (after .unknownRequest (asked (at2 .conflict) 11 [])).map answered =
    some (some (.badArgument, [])) := by decide +kernel

/-! ### The Loader -/

/-- An image of no feeds, every numeric field DEFAULT, beacon interval 150 ms (section 11.8): 112 bytes, in four parts, and its
CRC. -/
def imagePart (k : Nat) : List Byte :=
  let head := [0x4C, 0x54, 0x38, 0x31] ++ toBE 4 116 ++ [0, 1, 0x88, 0xB6] ++ toBE 6 0x030000000001 ++ toBE 2 150 ++
    List.replicate 14 (0xFF : Byte) ++ [1, 0] ++ List.replicate 72 (0xFF : Byte) ++ [0, 0, 0, 0]
  slice head (28 * k) 28
def image0 : List Byte := imagePart 0 ++ imagePart 1 ++ imagePart 2 ++ imagePart 3 ++ toBE 4 0xABF6F7C1

/-- The CRC register after each part, reckoned apart from the model. -/
theorem crc_part0 : (imagePart 0).foldl crcByte (BitVec.allOnes 32) = 0xDC0BB639#32 := by decide +kernel
theorem crc_part1 : (imagePart 1).foldl crcByte 0xDC0BB639#32 = 0xE651F94C#32 := by decide +kernel
theorem crc_part2 : (imagePart 2).foldl crcByte 0xE651F94C#32 = 0x50F5D69E#32 := by decide +kernel
theorem crc_part3 : (imagePart 3).foldl crcByte 0x50F5D69E#32 = 0x5409083E#32 := by decide +kernel

/-- Its CRC field holds the CRC of what is before it. -/
theorem crc_image0 : (crc32 ((readFlash image0 116).take 112)).toNat = natAt (readFlash image0 116) 112 4 := by
  have e : (readFlash image0 116).take 112 = imagePart 0 ++ imagePart 1 ++ imagePart 2 ++ imagePart 3 := by decide +kernel
  rw [e, crc32, List.foldl_append, List.foldl_append, List.foldl_append, crc_part0, crc_part1, crc_part2, crc_part3]
  decide +kernel

/-- It passes the seven tests. -/
theorem image0_passes : imageFault image0 = none := by
  have h1 : natAt (readFlash image0 fixedBytes) 0 4 = imageTag := by decide +kernel
  have h2 : imageFeeds (readFlash image0 fixedBytes) = 0 := by decide +kernel
  have h3 : natAt (readFlash image0 fixedBytes) 4 4 = imageLength 0 := by decide +kernel
  have h4 : imageEntries (readFlash image0 (imageLength 0)) = [] := by decide +kernel
  have h5 : (crc32 ((readFlash image0 (imageLength 0)).take (imageLength 0 - 4))).toNat =
      natAt (readFlash image0 (imageLength 0)) (imageLength 0 - 4) 4 := crc_image0
  simp [imageFault, h1, h2, h3, h4, h5, repeats]

theorem test_imageRead_accepts : (after (.imageReadDone image0) State.reset).map
    (fun t => (t.loader.state, t.loader.clamped, t.loader.config.map (fun c => (c.beaconMs, c.agreeNs)), t.req.set)) =
    some (.listen, 1, some (100, 200), 0x4000) := by
  have e : after (.imageReadDone image0) State.reset = some (State.reset.accept (readImage (readFlash image0 116))) := by
    have h2 : imageLength (imageFeeds (readFlash image0 fixedBytes)) = 116 := by decide +kernel
    simp [after, exec, execImageReadDone, imageReadDone, image0_passes, h2, State.reset]
  rw [e]
  decide +kernel
theorem test_imageRead_absent : (after (.imageReadDone []) State.reset).map
    (fun t => (t.loader.state, t.loader.imageStatus, t.req.enabled)) =
    some (.halted, .rejected .badTag, 0x7FFF) := by decide +kernel

theorem test_powerOn : (after (.powerOn 9) (at2 .serving)).map
    (fun t => (t.loader.state, t.loader.station, t.clock.tick, t.loader.identity)) =
    some (.loading, 9, 0, 0x02A0B0C0D0E2) := by decide +kernel


/-! ### Witnesses: for each statement, a state and operands that meet its hypotheses, clause by clause -/

theorem witness_StepRunsFrontCommand :
    ({ at2 .serving with pending := [.localTick, .beaconTaken] } : State).pending = [.localTick, .beaconTaken] ∧
      (at2 .serving).pending = [] := by decide +kernel

theorem witness_LineLinkEvents :
    ((at2 .listen).lines.get 7).state = .down ∧ (State.reset.lines.get 0).state = .down ∧
      ((withLine (at2 .serving) 0 liveLine).lines.get 0).state ≠ .down := by decide +kernel

/-- A line in a state whose settle timer is due at the present tick of `at2`, with errors counted. -/
def settling (errors : Nat) (due : Nat) : LineRx := { state := .settling, settleErrors := errors, settleTimer := some due }

theorem witness_LineTimersDecide :
    ((at2 .serving).loader.config = some cfg ∧ State.reset.loader.config = none) ∧
    let s := fun (e d : Nat) => withLine (at2 .serving) 3 (settling e d)
    (((s 0 1000001).lines.get 3).settleTimer = some 1000001 ∧ (s 0 1000001).clock.tick < 1000001) ∧
    (1000000 ≤ (s 0 1000000).clock.tick ∧ ((s 0 1000000).lines.get 3).settleErrors ≤ ((s 0 1000000).lineCfg 3).settleLimit) ∧
    (((s 1 1000000).lineCfg 3).settleLimit < ((s 1 1000000).lines.get 3).settleErrors) ∧
    ((withLine (at2 .serving) 3 liveLine).lines.get 3).silenceTimer = some 1000000 ∧
    ((withLine (at2 .serving) 3 { liveLine with silenceTimer := some 1000001 }).lines.get 3).silenceTimer = some 1000001 := by
  decide +kernel

theorem witness_StartDelimiterOpensFrame :
    ∀ x ∈ [(StationState.serving, (0 : Line), LineState.live, Carriage.header), (.serving, 2, .silent, .full),
        (.serving, 7, .live, .none), (.listen, 0, .live, .header), (.serving, 0, .settling, .header),
        (.serving, 0, .faulted, .header)],
      let s := withLine (at2 x.1) x.2.1 { liveLine with state := x.2.2.1 }
      (s.lines.get x.2.1).state = x.2.2.1 ∧ (s.lines.get x.2.1).state ≠ .down ∧ (s.lines.get x.2.1).frame = none ∧
        s.loader.state = x.1 ∧ lineCarriage s.feeds x.2.1 = x.2.2.2 := by decide +kernel

/-- A marked live frame of `count` bytes with a chain of `stored` bytes. -/
def markedFrame (i : Line) (count stored : Nat) : FrameRec :=
  { cls := .live, mark := true, date := ct 9 0 0, count := count, chain := some { line := i, stored := stored } }

/-- That frame in flight on its line. -/
def inFlight (i : Line) (f : FrameRec) : State := withLine (at2 .serving) i { liveLine with frame := some f }

theorem witness_FrameByteIsTaken :
    let cap := fun (i : Line) => (lineCarriage (at2 .serving).feeds i).captureLimit
    (((inFlight 0 { markedFrame 0 0 0 with chain := none }).lines.get 0).frame = some { markedFrame 0 0 0 with chain := none }) ∧
    (1536 ≤ (markedFrame 0 1536 64).count) ∧
    (((inFlight 0 (markedFrame 0 1535 64)).lines.get 0).frame = some (markedFrame 0 1535 64) ∧
      (markedFrame 0 1535 64).count < 1536 ∧ cap 0 ≤ 64) ∧
    (63 < cap 0 ∧ 63 % 256 ≠ 0 ∧ 1535 < cap 1) ∧
    (1280 < cap 1 ∧ 1280 % 256 = 0) ∧
    ((at2 .serving).pool.free ≠ 0 ∧ (at2 .serving).pool.held.get 1 ≠ 1024) ∧
    (({ at2 .serving with pool := { free := 0, low := 0 } } : State).pool.free = 0) ∧
    (({ at2 .serving with pool := { free := 3072, held := (PerLine.all 0).set 1 1024 } } : State).pool.held.get 1 = 1024) := by
  decide +kernel

theorem witness_ChainHoldsItsBytes : (256 : Nat) < (List.replicate 257 (7 : Byte)).length := by decide +kernel

theorem witness_FrameEndDisposes :
    let f := fun (c : FrameClass) (m : Bool) => ({ cls := c, mark := m, date := ct 9 0 0 } : FrameRec)
    ((inFlight 2 (f .settling false)).lines.get 2).frame = some (f .settling false) ∧
      ((inFlight 2 (f .faulted false)).lines.get 2).frame = some (f .faulted false) ∧
      ((inFlight 2 (f .live false)).lines.get 2).frame = some (f .live false) ∧
      ((inFlight 2 (f .live true)).lines.get 2).frame = some (f .live true) := by decide +kernel

theorem witness_FrameCheckReadsWholeFrame : 4 ≤ [((1 : Byte), false), (2, true), (3, false), (4, false)].length := by decide

theorem witness_FramesAreParsed :
    (zeros 12).length = 12 ∧ (zeros 5).length = 5 ∧ (zeros 1).length = 1 ∧ (zeros 6).length = 6 ∧ (zeros 2).length = 2 ∧
      (∀ words ∈ [5, 15], 5 ≤ words ∧ words ≤ 15 ∧ (zeros (4 * (words - 5))).length = 4 * (words - 5)) ∧ 3 < 4 ∧
      4294967295 < 4294967296 ∧ 65535 < 65536 ∧
    (let w := udpFrame 0xE9360C28 20040 0 []
     w.length = 14 + 20 + 8 ∧ natAt w 12 2 = 0x0800 ∧ natAt w 14 1 / 16 = 4 ∧ natAt w 14 1 % 16 * 4 = 20 ∧ natAt w 23 1 = 17 ∧
       natAt w 20 2 % 16384 = 0 ∧ (w.dropLast).length < 14 + 20 + 8) ∧
    natAt (zeros 12 ++ [0x88, 0xA8, 0, 1, 0x86, 0xDD]) 16 2 ≠ 0x0800 ∧ natAt (zeros 14 ++ [0x44]) 14 1 % 16 * 4 < 20 ∧
    natAt [0x20, 0x00] 0 2 % 16384 ≠ 0 ∧ natAt [0x00, 0x01] 0 2 % 16384 ≠ 0 ∧ natAt [0x40, 0x00] 0 2 % 16384 = 0 := by
  decide +kernel

/-- A hand-off of line `i` that names feed 40's group, with a payload, a UDP payload length and a cause. -/
def handed40 (i : Line) (len : Nat) (bs : List Byte) (cause : Option FailCause) : HandOff :=
  { handOff i (udpFrame 0xE9360C28 20040 len bs) with cause := cause }

theorem witness_ClassifyHandOffByOutcome :
    let s := at2 .serving
    let good := toBE 8 1005 ++ toBE 2 5
    let last := toBE 8 18446744073709551611
    (({ s with handOffs := [handOff 1 [], handed40 0 40 good none] } : State).handOffs.find?
      (fun x => decide (x.line = 0)) = some (handed40 0 40 good none)) ∧
    (parseFrame (handOff 0 []).window = none ∧ classify s.feeds (handOff 0 []) = .unmatched) ∧
    (parseFrame (handed40 0 40 good none).window =
        some { dest := 0xE9360C28, port := 20040, payload := 42, udpLength := 48 } ∧
      s.feeds = [] ++ { cfg := feed40 } :: [{ cfg := feed41 }] ∧ feed40.group = 0xE9360C28 ∧ feed40.port = 20040) ∧
    ((handOff 0 []).length = 200 ∧ 154 + 4 + 42 = 200) ∧
    (classify s.feeds (handed40 0 40 good (some .short)) = .damaged { cfg := feed40 } .short ∧ feed40.onLine 0 = true) ∧
    (classify s.feeds (handed40 7 40 good (some .fcs)) = .damaged { cfg := feed40 } .fcs ∧ feed40.onLine 7 = false) ∧
    (classify s.feeds (handed40 7 154 good none) = .stray { cfg := feed40 } 1005 5 ∧
      classify s.feeds (handed40 7 155 good none) = .stray { cfg := feed40 } 0 0) ∧
    (classify s.feeds (handed40 0 155 good none) = .malformed { cfg := feed40 } .badLength ∧
      classify s.feeds (handed40 0 9 good none) = .malformed { cfg := feed40 } .shortPayload) ∧
    (classify s.feeds (handed40 0 10 (last ++ toBE 2 6) none) = .malformed { cfg := feed40 } .rangeOverflow ∧
      classify s.feeds (handed40 0 10 (last ++ toBE 2 5) none) = .range 0 { cfg := feed40 } 18446744073709551611 5) ∧
    classify s.feeds (handed40 0 10 good none) = .range 0 { cfg := feed40 } 1005 5 := by decide +kernel

/-! The tables -/

/-- A classified arrival of feed 40 on line 0. -/
def arrived (n c : Nat) : Arrival :=
  { index := 0, feed := 40, line := 0, date := ct 61 400000 0, first := n, count := c, length := 100, chain := none,
    captured := 96, truncated := false }

theorem witness_LocalArrivalIsJudged :
    ({ tabled with arrivals := [arrived 902 1] } : State).arrivals.find? (fun x => decide (x.line = 0)) = some (arrived 902 1) ∧
      tabled.feeds[(arrived 902 1).index]? = some { cfg := feed40, table := table57 } := by decide +kernel

/-- The winner of every entry of `table57`, and a table of no gap whose one entry is of sequences 10 to 19. -/
def won : Winner := { station := 2, line := 0, date := ct 60 0 0 }
def small : Table := { high := some 20, log := [{ first := 10, last := 19, kind := .localClaim, winner := some won }] }

theorem witness_JudgementCases :
    (({} : Table).high = none ∧ ({} : Table).log = []) ∧
    (small.high = some 20 ∧ ¬ (20 < 20 ∧ 20 ≤ 20 + feed40.jumpLimit) ∧ ¬ (20 < 100021 ∧ 100021 ≤ 20 + feed40.jumpLimit)) ∧
    (20 < 100020 ∧ 100020 ≤ 20 + feed40.jumpLimit ∧ small.gaps.length < 8) ∧
    (table57.high = some 2000 ∧ 2000 < 2001 ∧ 2001 ≤ 2000 + feed40.jumpLimit ∧ (table57.gaps.drop 1).length = 7 ∧
      table57.gaps.length = 8) ∧
    (20 + feed40.jumpLimit < 100021) ∧
    (({ high := some 1000001 } : Table).high = some 1000001 ∧ 0 + feed40.rewind < 1000001 ∧ 0 ≤ 1000001 + feed40.jumpLimit) ∧
    (small.rangeCase feed40.jumpLimit feed40.rewind 9 9 = .allSeen ∧ small.log.find? (fun x => x.contains 9) = none) ∧
    (small.rangeCase feed40.jumpLimit feed40.rewind 19 19 = .allSeen ∧
      (small.log.find? (fun x => x.contains 19)).bind LogEntry.winner = some won) ∧
    won.notAfter won = true ∧ won.notAfter { won with date := ct 59 999999999 3 } = false := by decide +kernel

/-- `table57` is sound: its gaps in order, its log below H, and no sequence in two places. -/
theorem table57_sound : table57.Sound := by
  unfold Table.Sound gapsSound logSound table57
  decide +kernel

theorem table57_apart : table57.Apart := by
  unfold Table.Apart table57
  decide +kernel

theorem witness_RangesAreEntered :
    table57.Sound ∧ table57.Apart ∧ table57.high = some 2000 ∧
    (table57.gaps.length = 8 ∧ 2000 < 2001 ∧ 2001 ≤ 2001 ∧ EntryKind.localClaim ≠ .lost ∧
      (∀ g ∈ table57.gaps, g.last < 2000 ∧ ¬ (g.last < g.first))) ∧
    let t : Table := { table57 with log := [{ first := 905, last := 999, kind := .lost, winner := none }] }
    t.isLost 905 = true ∧ t.isLost 1000 = false ∧
    (table57.isLost 1100 = false ∧ table57.seenParts 1100 1104 = [] ∧ 1100 < 2000) ∧
    (table57.seenParts 2000 2000 = [] ∧ 2000 ≤ 2000 + feed40.jumpLimit ∧ 2000 ≤ 1100 + feed40.rewind) ∧
    (table57.seenParts 1099 1104 ≠ [] ∧ table57.unseenRuns 1099 1104 ≠ []) ∧
    (t.seenParts 904 905 ≠ [] ∧ t.lostRuns 904 905 ≠ []) := by
  refine ⟨table57_sound, table57_apart, ?_⟩
  decide +kernel

theorem witness_GapExpiryLoses :
    let s := fun (n : Nat) => ({ tabled with clock := { tabled.clock with tick := n } } : State)
    tabled.feeds[(0 : Fin 32).val]? = some { cfg := feed40, table := table57 } ∧
      (∃ g ∈ table57.gaps, g.deadline = 1080000) ∧ (∀ g ∈ table57.gaps, 1080000 ≤ g.deadline) ∧
      (s 1079999).clock.tick < 1080000 ∧ 1080000 ≤ (s 1080000).clock.tick := by decide +kernel

/-- A state whose arbiter holds a frame of station `q`. -/
def holding (st : StationState) (q : Nat) (rs : List (List Byte)) : State :=
  { tabled with loader := { tabled.loader with state := st }, arbiter := { frame := some { station := q, records := rs } } }

/-- A record's first byte and code replaced, and its length field. -/
def recordOf (kind code len : Nat) : List Byte := toBE 1 kind ++ toBE 1 code ++ toBE 2 len ++ claimRecord.drop 4

theorem witness_PeerRecordFates :
    ((holding .serving 2 []).arbiter.frame = some { station := 2, records := [] } ∧
      2 = (holding .serving 2 []).loader.station ∧ 15 < 16) ∧
    ((holding .listen 6 [claimRecord]).arbiter.frame = some { station := 6, records := [claimRecord] } ∧
      (holding .listen 6 [claimRecord]).loader.state ≠ .serving ∧ 6 ≠ (holding .listen 6 [claimRecord]).loader.station) ∧
    (natAt (recordOf 6 1 64) 0 1 = 6 ∧ natAt (recordOf 0 1 64) 0 1 = 0 ∧ natAt (recordOf 1 14 64) 1 1 = 14) ∧
    (∀ c ∈ [1, 6, 7, 13], natAt (recordOf 1 c 64) 0 1 = 1 ∧ natAt (recordOf 1 c 64) 1 1 = c ∧
      natAt (recordOf 1 c 64) 2 2 = 64 + (natAt (recordOf 1 c 64) 22 2 + 7) / 8 * 8 ∧ natAt (recordOf 1 c 64) 6 1 ≤ 7 ∧
      natAt (recordOf 1 c 64) 30 4 < 4000000000 ∧ natAt (recordOf 1 c 64) 16 2 = 5 ∧ natAt (recordOf 1 c 64) 8 8 = 2000 ∧
      natAt (recordOf 1 c 64) 5 1 % 2 = 0 ∧ natAt (recordOf 1 c 64) 4 1 = feed40.feed ∧
      refusedRecord (recordOf 1 c 64) 6 = false) ∧
    (∀ k ∈ [(2, 48), (3, 32), (4, 48), (5, 32)], natAt (recordOf k.1 0 k.2) 0 1 = k.1 ∧ natAt (recordOf k.1 0 k.2) 2 2 = k.2 ∧
      natAt (recordOf k.1 0 k.2) 4 1 = feed40.feed ∧ refusedRecord (recordOf k.1 0 k.2) 6 = false) ∧
    (tabled.feeds = [] ++ { cfg := feed40, table := table57 } :: [{ cfg := feed41 }]) := by
  decide +kernel

theorem witness_PeerClaimsAndYields :
    (({} : Table).high = none ∧ ({} : Table).log = []) ∧
    (small.high = some 20 ∧ 20 + feed40.jumpLimit < 100021) ∧
    (({ high := some 1000001 } : Table).high = some 1000001 ∧ 0 + feed40.rewind < 1000001) ∧
    (small.seenParts 20 20 = [] ∧ small.seenParts 19 20 ≠ [] ∧ small.unseenRuns 19 20 ≠ []) ∧
    (small.isLost 9 = false ∧ small.seenParts 9 9 ≠ [] ∧ small.unseenRuns 9 9 = [] ∧ small.lostRuns 9 9 = [] ∧
      ∀ x ∈ small.log, 9 < x.first ∨ x.last < 9) ∧
    (small.isLost 10 = false ∧ small.seenParts 10 19 ≠ [] ∧ small.unseenRuns 10 19 = [] ∧ small.lostRuns 10 19 = [] ∧
      small.log = [] ++ { first := 10, last := 19, kind := .localClaim, winner := some won } :: []) ∧
    (won.notAfter won = true ∧ won.notAfter { won with station := 1 } = false ∧ won.station = 2 ∧ won.station ≠ 3) ∧
    small.seenParts 19 19 ≠ [] := by decide +kernel
/-! The clock and the agreement -/

/-- The state with a step asked for, and a class to adopt after it. -/
def stepping (due : Bool) (cls : Option AgreementState) : State :=
  let s := at2 (if cls.isSome then .acquire else .serving)
  { s with clock := { s.clock with pendingStep := some { correction := -7, due := due } },
           agr := { s.agr with servingAfterStep := cls } }

theorem witness_StepMovesCageTime :
    (at2 .serving).clock.pendingStep = none ∧
    (stepping false none).clock.pendingStep = some { correction := -7, due := false } ∧
    ((stepping true none).clock.pendingStep = some { correction := -7, due := true } ∧
      (stepping true none).agr.servingAfterStep = none) ∧
    ((stepping true (some .spread)).clock.pendingStep = some { correction := -7, due := true } ∧
      (stepping true (some .spread)).agr.servingAfterStep = some .spread) := by decide +kernel

/-- The state with a seconds value whose boundary has come, its request at the head. -/
def writing (st : StationState) (a : AgreementState) (v : Nat) (step : Option Int) : State :=
  let s := asked (at2 st) 5 (toBE 8 v)
  { s with agr := { s.agr with agreement := a },
           clock := { s.clock with pendingSeconds := some { value := v, due := true },
                                   move := { s.clock.move with step := step } } }

theorem witness_SecondsWriteDecides :
    (∀ x ∈ [(StationState.listen, AgreementState.acquiring, 0, none), (.acquire, .acquiring, 0, none), (.serving, .alone, 10, none),
        (.serving, .alone, 9, none), (.serving, .agreed, 10, none), (.serving, .alone, 10, some (0 : Int))],
      let s := writing x.1 x.2.1 x.2.2.1 x.2.2.2
      s.clock.pendingSeconds = some { value := x.2.2.1, due := true } ∧ s.req.queue = [request 5 (toBE 8 x.2.2.1)] ∧
        s.req.responses.length < 4 ∧ s.loader.state = x.1 ∧ s.agr.agreement = x.2.1 ∧ s.clock.move.step = x.2.2.2 ∧
        s.clock.pendingStep = none) ∧
    ((writing .serving .alone 10 none).clock.acc.sec < 10 ∧ ¬ (writing .serving .alone 9 none).clock.acc.sec < 9) := by
  decide +kernel

/-- The state with an anchor state and failed and good runs, its accumulator at `q` quarter ns of its second. -/
def anchored (a : AnchorState) (good failed q : Nat) : State :=
  let s := at2 .serving
  { s with clock := { s.clock with
      acc := { sec := 9, units := q * 1073741824 },
      anchor := { state := a, goodRun := good, failedRun := failed, window := some 1000000 } } }

/-- The state with one tick behind the present one, and a step and a difference of seconds at the boundary between. -/
def pastTick (s : State) (step seconds : Option Int) : State :=
  { s with clock := { s.clock with
      past := [{ acc := { sec := 8, units := 0 }, incr := 17179869184, move := {} }], move := { step := step, seconds := seconds } } }

theorem witness_PulsesAndWindows :
    (∀ x ∈ [(AnchorState.seeking, 2, 0), (.seeking, 3, 0), (.locked, 0, 1), (.locked, 0, 2), (.lost, 0, 3)],
      let s := anchored x.1 x.2.1 x.2.2 0
      s.loader.config = some cfg ∧ s.clock.anchor.state = x.1 ∧ s.clock.anchor.state ≠ .none ∧
        s.clock.anchor.goodRun = x.2.1 ∧ s.clock.anchor.failedRun = x.2.2 ∧
        s.clock.anchor.window = some 1000000 ∧ 1000000 ≤ s.clock.tick) ∧
    (anchored .none 0 0 0).clock.anchor.state = .none ∧ (at2 .serving).clock.tick < 1000001 ∧
    cfg.captureUs * 4000 = 200000 ∧
    (anchored .locked 0 0 200000).clock.date 0 0 = ct 9 50000 0 ∧ (anchored .locked 0 0 200001).clock.date 0 0 = ct 9 50000 1 ∧
    (anchored .locked 0 0 3999800000).clock.date 0 0 = ct 9 999950000 0 ∧
    (anchored .locked 0 0 3999799999).clock.date 0 0 = ct 9 999949999 3 ∧
    (let s := pastTick (anchored .locked 0 0 0) (some (-4)) (some 3)
     s.clock.past.length = 1 ∧ s.clock.past[1]? = none ∧ s.clock.move = { step := some (-4), seconds := some 3 }) := by
  decide +kernel

theorem witness_DatesAreFormedAndOrdered :
    (at2 .serving).clock.InRange ∧ (at2 .serving).clock.acc.sec < 281474976710655 ∧
    (let raw := fun (k : Clock) (p trim : Nat) =>
       (((k.acc.sec * 4294967296000000000 + k.acc.units) * 16 + p * (17179869184 + k.adj).toNat : Nat) : Int) - trim * 17179869184
     raw { acc := { sec := 0, units := 536870912 } } 0 1 = -8589934592 ∧ raw { acc := { sec := 0, units := 536870911 } } 0 1 < -8589934592) ∧
    ∃ f : Nat → State, (∀ n, step (f n) = .next (f (n + 1))) ∧
      (∀ n, (f n).loader.state = .serving ∧ (f n).clock.acc.sec < 281474976710655) ∧ (f 0).clock.InRange ∧
      (f 0).clock.pendingStep = none ∧ (f 0).clock.tick ≠ (f 1).clock.tick := by
  refine ⟨by unfold Clock.InRange; decide +kernel, by decide +kernel, by decide +kernel,
    fun n => match n with
      | 0 => { at2 .serving with pending := [.localTick] }
      | _ + 1 => { at2 .serving with clock := (at2 .serving).clock.advance }, ?_, ?_, ?_, rfl, by decide +kernel⟩
  · intro n; cases n <;> rfl
  · have h : (at2 .serving).clock.advance.acc.sec < 281474976710655 := by decide +kernel
    intro n
    cases n
    · exact ⟨rfl, (by decide +kernel : (at2 .serving).clock.acc.sec < 281474976710655)⟩
    · exact ⟨rfl, h⟩
  · unfold Clock.InRange; decide +kernel

/-- The state with the beacon timer at a deadline and the segment link so. -/
def beaconDueAt (d : Nat) (l : LinkState) : State :=
  { at2 .listen with agr := { (at2 .listen).agr with beaconTimer := some d }, port := { link := l } }

theorem witness_BeaconTimerMakesDue :
    ((beaconDueAt 1000001 .up).loader.config = some cfg ∧ (beaconDueAt 1000001 .up).agr.beaconTimer = some 1000001 ∧
      (beaconDueAt 1000001 .up).clock.tick < 1000001) ∧
    ((beaconDueAt 1000000 .up).agr.beaconTimer = some 1000000 ∧ 1000000 ≤ (beaconDueAt 1000000 .up).clock.tick ∧
      (beaconDueAt 1000000 .up).port.link = .up) ∧
    ((beaconDueAt 1000000 .down).port.link = .down ∧ (beaconDueAt 1000000 .down).agr.beaconTimer = some 1000000) := by
  decide +kernel

/-- The beacon that `heardFrom` hands over. -/
def handedBeacon (n : Nat) (id : Identity) (tick : Nat) : BeaconIn :=
  { beacon := beacon n id, arrival := ct 9 360 0, tick := tick, stale := false }

/-- The state with a conflict remembered at tick 0. -/
def remembering (id : Identity) (tick : Nat) : State :=
  let s := heardFrom (at2 .serving) 2 0x02FFFFFFFFFF tick
  { s with agr := { s.agr with conflict := some { identity := id, tick := 0 } } }

/-- Peer 5 as it stands before a beacon of `handedBeacon 5 0x5A`: its last number and reported state, and a ring or none. -/
def known (st : EntryState) (number rep : Nat) (ring : List Sample) : Peer :=
  { peer5 st with lastBeaconNumber := number, repState := rep, ring := ring }

/-- That peer in the table, and its beacon handed over. -/
def hearing (p : Peer) (b : BeaconIn) : State :=
  let s := peered (at2 .serving) p
  { s with agr := { s.agr with inbox := some b } }

theorem witness_BeaconTakenByCase :
    ((heardFrom (at2 .conflict) 2 1 5).agr.inbox = some (handedBeacon 2 1 5) ∧
      (heardFrom (at2 .conflict) 2 1 5).loader.state = .conflict) ∧
    ((remembering 0x02FFFFFFFFFF 32000000).agr.inbox = some (handedBeacon 2 0x02FFFFFFFFFF 32000000) ∧
      (remembering 0x02FFFFFFFFFF 32000000).loader.state = .serving ∧
      (remembering 0x02FFFFFFFFFF 32000000).loader.station = 2 ∧
      (remembering 0x02FFFFFFFFFF 32000000).loader.identity < 0x02FFFFFFFFFF ∧
      32000000 ≤ 0 + 32 * (remembering 0x02FFFFFFFFFF 32000000).beaconTicks) ∧
    (0 + 32 * (remembering 0x02FFFFFFFFFF 32000001).beaconTicks < 32000001) ∧
    ((remembering 1 32000000).agr.conflict = some { identity := 1, tick := 0 } ∧ (1 : Identity) ≠ 0x02FFFFFFFFFF) ∧
    (∀ n ∈ [15, 16], (heardFrom (at2 .listen) n 0x5A 5).agr.inbox = some (handedBeacon n 0x5A 5) ∧
      n ≠ (at2 .listen).loader.station ∧ (∀ p ∈ (heardFrom (at2 .listen) n 0x5A 5).agr.peers, p.station ≠ n) ∧
      (∀ e ∈ (beacon n 0x5A).echoes, e.station ≠ 2)) ∧
    (∀ x ∈ [(8, 5), (9, 5), (7, 5), (7, 4), (2147483656, 5), (2147483655, 5)],
      let p := known .paired x.1 x.2 []
      let b := handedBeacon 5 0x5A 5
      (hearing p b).agr.inbox = some b ∧ ((hearing p b).agr.peers.map Peer.station).Nodup ∧
        (∀ q ∈ (hearing p b).agr.peers, q.station ≤ 15 ∧ q.station ≠ (hearing p b).loader.station) ∧
        (hearing p b).agr.peers = [] ++ p :: [] ∧ p.station = b.beacon.station ∧ p.identity = b.beacon.identity ∧
        p.repState = x.2) ∧
    ((8 - 8 : Int) % 4294967296 = 0 ∧ 2147483648 < (8 - 9 : Int) % 4294967296 ∧ (8 - 7 : Int) % 4294967296 = 1 ∧
      (8 - 2147483656 : Int) % 4294967296 = 2147483648 ∧ (8 - 2147483655 : Int) % 4294967296 = 2147483649) ∧
    ((known .silent 7 5 []).identity ≠ 0x5B ∧ (known .silent 7 5 []).state = .silent) ∧
    (let e : EchoEntry := { station := 2, t1 := ct 8 0 0, t2 := ct 8 1 0 }
     let b := { handedBeacon 5 0x5A 5 with beacon := { beacon 5 0x5A with echoes := [{ e with station := 3 }, e] } }
     b.stale = false ∧ b.beacon.echoes = [{ e with station := 3 }] ++ e :: [] ∧ e.station = (at2 .serving).loader.station) := by
  decide +kernel

theorem witness_BeaconTakenEntersConflict :
    (∀ k ∈ [none, some FrameKind.publication, some .beacon], ∀ m ∈ [0, 4],
      let s := heardFrom (at2 .serving) 2 0x02A0B0C0D0E1 1000000
      let t : State := { s with
        port := { s.port with tx := k.map (fun x => { kind := x, bytes := [] }) },
        req := { s.req with queue := [request 4 [], request 1 []], parts := [{ block := .pool, items := [] }],
                            responses := List.replicate m { code := 1, result := .ok, requester := 7, tag := 9, data := [] } } }
      t.agr.inbox = some (handedBeacon 2 0x02A0B0C0D0E1 1000000) ∧ t.loader.state = .serving ∧ t.loader.station = 2 ∧
        (0x02A0B0C0D0E1 : Identity) < t.loader.identity ∧ t.req.responses.length ≤ 4) ∧
    State.reset.PoolSound := by
  refine ⟨by decide +kernel, by decide +kernel, by decide +kernel, by decide +kernel, by decide +kernel, ?_⟩
  intro i
  fin_cases i <;> exact trivial

/-- A beacon that echoes this station's departure of 900 s and 100,000 ns, received 400 ns later of delay (section 3.6). -/
def echoed : EchoEntry := { station := 2, t1 := ct 900 100000 0, t2 := ct 900 100360 0 }

theorem witness_SamplesAreChecked :
    (at2 .serving).loader.config = some cfg ∧
    ((ct 900 4100000 0).diff echoed.t2 = 15998560 ∧ (ct 900 100359 3).diff echoed.t2 < 0) ∧
    (((ct 900 4100440 1).diff echoed.t1 - 15998560).tdiv 2 = 1600) ∧
    (15998560 : Int) ≤ 2 * ((cfg.beaconMs : Int) * 4000000) ∧ echoed.t1 ∈ [ct 900 100000 0] ∧ echoed.t1 ∉ ([] : List CageTime) ∧
    (cfg.minDelayNs : Int) * 4 ≤ 1600 ∧ (1600 : Int) ≤ cfg.maxDelayUs * 4000 := by decide +kernel

theorem witness_SilenceDeadlineFalls :
    let s := fun (st : EntryState) (n : Nat) =>
      ({ peered (at2 .serving) (peer5 st) with clock := { (at2 .serving).clock with tick := n } } : State)
    (s .paired 999999).PeersSound ∧ peer5 .paired ∈ (s .paired 999999).agr.peers ∧ (peer5 .paired).station = (5 : Fin 16).val ∧
      (s .paired 999999).clock.tick < (peer5 .paired).deadline ∧ (peer5 .paired).deadline ≤ (s .paired 1000000).clock.tick ∧
      (peer5 .paired).state ≠ .silent ∧ (peer5 .silent).state = .silent := by
  unfold State.PeersSound
  decide +kernel

/-- A state whose round timer is due, LISTEN with rounds counted, or with a sample of peer 5 in its ring. -/
def rounding (st : StationState) (n : Nat) (ring : List Sample) : State :=
  let s := peered (at2 st) { peer5 .paired with ring := ring, repState := 5, repAgreement := 3 }
  { s with agr := { s.agr with roundCount := n }, clock := { s.clock with anchor := { state := .seeking } } }

theorem witness_RoundEndByState :
    (rounding .serving 0 []).loader.config = some cfg ∧
    (∀ st ∈ [StationState.listen, .acquire, .serving], (rounding st 0 []).agr.roundTimer = some 1000000 ∧
      1000000 ≤ (rounding st 0 []).clock.tick ∧ (rounding st 0 []).loader.state = st) ∧
    ¬ 3 ≤ (rounding .listen 1 []).agr.roundCount + 1 ∧ 3 ≤ (rounding .listen 2 []).agr.roundCount + 1 ∧
    (rounding .acquire 3 []).acquireStep (rounding .acquire 3 []).round = none ∧
    (let s := rounding .acquire 3 [{ offset := 480, delay := 1600, tick := 999998 }, { offset := 500, delay := 1601, tick := 999999 }]
     s.acquireStep s.round = some 240) := by decide +kernel

theorem witness_RoundsMeasureTheOffsets :
    (let x := fun (d t : Nat) => ({ offset := 1, delay := d, tick := t } : Sample)
     let p := { peer5 .paired with repState := 5, ring := [x 5 1, x 5 2, x 6 3] }
     p.state = .paired ∧ 2 ≤ (p.ring.filter (fun y => decide (32000000 < y.tick + 32 * 1000000))).length ∧
       ¬ 2 ≤ (p.ring.filter (fun y => decide (32000002 < y.tick + 32 * 1000000))).length ∧
       p.repState = 5 ∧ ({ p with repState := 4 } : Peer).repState ≠ 5) ∧
    (AnchorState.lost ≠ .locked ∧ (∃ p ∈ [{ peer5 .paired with repAnchor := 3 }], p.repAnchor = 3) ∧
      ∀ p ∈ [peer5 .paired], p.repAnchor ≠ 3) ∧
    ([0, 480, -160] : List Int).length < 4 ∧ 4 ≤ ([0, 480, -160, 1200] : List Int).length ∧
    ((at2 .serving).loader.config = some cfg ∧ cfg.anchorEnabled = true ∧ (at2 .serving).clock.anchor.seen = false ∧
      cfg.agreeNs * 4 = 800 ∧ (800 : Nat) ≤ 800 ∧ (800 : Nat) < 801) ∧
    (∃ s : State, s.loader.config = some cfg ∧ s.clock.anchor.seen = true ∧ s.clock.anchor.latest = some (ct 9 500000000 0)) := by
  refine ⟨by decide +kernel, by decide +kernel, by decide +kernel, by decide +kernel, by decide +kernel, ?_⟩
  exact ⟨{ at2 .serving with clock := { anchor := { seen := true, latest := some (ct 9 500000000 0) } } }, rfl, rfl, rfl⟩
/-! The Publisher -/

theorem witness_RecordTakenByState :
    (({ queued .normal 0 (arrival .fill 0) with loader := (at2 .listen).loader } : State).loader.state ≠ .serving ∧
      ({ queued .normal 0 (arrival .fill 0) with loader := (at2 .listen).loader } : State).pub.waiting .arbiter = [arrival .fill 0]) ∧
    (∀ v ∈ [Verdict.duplicate, .keepalive, .stale, .stray, .fill, .wild],
      (queued .shedding 300 (arrival v 64)).pub.waiting .arbiter = [arrival v 64] ∧
      (queued .shedding 300 (arrival v 64)).loader.state = .serving ∧ (queued .shedding 300 (arrival v 64)).pub.state = .shedding) ∧
    (((queued .shedding 1024 (arrival .fill 1)).pub.setWaiting .arbiter []).queue.length = 1024 ∧
      ((queued .normal 1023 (arrival .fill 1)).pub.setWaiting .arbiter []).queue.length ≠ 1024) ∧
    ((arrival .fill 0).hasPayload = false ∧ (arrival .fill 1).hasPayload = true) ∧
    (∀ n ∈ [767, 766, 1023], (queued .normal n (arrival .fill 1)).pub.waiting .arbiter = [arrival .fill 1] ∧
      (queued .normal n (arrival .fill 1)).pub.state = .normal ∧
      ((queued .normal n (arrival .fill 1)).pub.queue ++ [arrival .fill 1]).length = n + 1) := by decide +kernel


/-- A MARK record, of 32 bytes. -/
def mark0 : Record := .mark 0 (ct 0 0 0) (ct 0 0 0) false

/-- The state with a queue and a frame under assembly. -/
def assembling (st : PubState) (a : AsmState) (queue asm : List Record) : State :=
  { at2 .serving with pub := { queue := queue, asm := asm, asmState := a, state := st,
                               batchTimer := if a = .filling then some 1000000 else none } }

theorem witness_RecordEntersFrame :
    (assembling .normal .complete [mark0] [mark0]).loader.config = some cfg ∧
    (assembling .normal .complete [mark0] [mark0]).pub.asmState = .complete ∧
    ¬ (List.replicate 16 mark0).length < 16 ∧
    ¬ ((List.replicate 5 (arrival .fill 1532)).map Record.encodedLength).sum + (arrival .fill 1532).encodedLength ≤ 8960 ∧
    ((List.replicate 15 mark0).length < 16 ∧ ((List.replicate 15 mark0).map Record.encodedLength).sum + mark0.encodedLength ≤ 8960) ∧
    (∀ n ∈ [256, 255, 257], (assembling .shedding .empty (mark0 :: List.replicate n mark0) []).pub.queue =
        mark0 :: List.replicate n mark0 ∧
      (List.replicate n mark0).length = n ∧ (assembling .shedding .empty (mark0 :: List.replicate n mark0) []).pub.state = .shedding ∧
      (assembling .shedding .empty (mark0 :: List.replicate n mark0) []).pub.asmState ≠ .complete) := by decide +kernel

/-- Any ready frame. -/
def readyFrame (rs : List Record) : ReadyFrame :=
  { station := 2, identity := 0x02A0B0C0D0E2, number := 1, agreement := .alone, spread := 0, drop := 0, records := rs }

/-- The state with the ready frame slot occupied. -/
def occupied (s : State) : State := { s with pub := { s.pub with ready := some (readyFrame [mark0]) } }

theorem witness_ClosingConditions :
    (filling.pub.asmState = .filling ∧ filling.pub.batchTimer = some 1000000 ∧ 1000000 ≤ filling.clock.tick ∧
      filling.clock.tick < 1000001 ∧ filling.pub.ready = none ∧ (occupied filling).pub.ready ≠ none) ∧
    (at2 .serving).pub.asmState ≠ .filling ∧
    16 ≤ (assembling .normal .filling [] (List.replicate 16 mark0)).pub.asm.length ∧
    ¬ 16 ≤ (assembling .normal .filling [] (List.replicate 15 mark0)).pub.asm.length ∧
    (let s := assembling .normal .filling [arrival .fill 1532] (List.replicate 5 (arrival .fill 1532))
     s.pub.asmState = .filling ∧ s.pub.queue = [arrival .fill 1532] ∧
       8960 < (s.pub.asm.map Record.encodedLength).sum + (arrival .fill 1532).encodedLength) := by decide +kernel

theorem witness_EncodedLengths :
    ((arrival .fill 1532).encodedLength = 1600) ∧ (at2 .serving).pub.asm = [] ∧
    faulty [{ record := 0, byte := 0 }] 0 (arrival .fill 1).heldCells = true := by decide +kernel

theorem witness_MarkRequestsAndOrders :
    ((armed 9).pub.mark = some { target := ct 9 0 0, tag := 77 } ∧ (armed 9).clock.reading.before (ct 9 0 0) = false ∧
      (armed 10).clock.reading.before (ct 10 0 0) = true) ∧
    (∀ x ∈ [(9, toBE 6 9 ++ toBE 4 1 ++ toBE 4 5, true, true), (9, toBE 6 9 ++ toBE 4 0 ++ toBE 4 5, true, false),
        (10, toBE 6 9 ++ toBE 4 4294967295 ++ toBE 4 5, false, false)],
      let s := asked (armed x.1) 6 x.2.1
      s.loader.state = .serving ∧ s.req.queue = [request 6 x.2.1] ∧ s.req.responses.length < 4 ∧ (request 6 x.2.1).code = 6 ∧
        (timeAt x.2.1 0).valid = x.2.2.1 ∧ (x.2.2.1 = true → s.clock.reading.before (timeAt x.2.1 0) = x.2.2.2) ∧
        s.pub.mark ≠ none) ∧
    ((asked (at2 .serving) 7 []).pub.mark = none ∧ (asked (armed 9) 7 []).pub.mark ≠ none ∧
      (asked (armed 9) 7 []).req.queue = [request 7 []]) := by decide +kernel

/-! The segment port -/

/-- The state with a beacon due, an ALERT pending, and so many responses waiting. -/
def sendable (b a : Bool) (n : Nat) : State :=
  let s := at2 .serving
  { s with agr := { s.agr with beaconDue := b },
           req := { s.req with
             alertPending := a,
             responses := List.replicate n { code := 1, result := .ok, requester := 7, tag := 9, data := [] } } }

theorem witness_TransmitChoosesInOrder :
    (State.reset.port.link = .down ∧ (sending .beacon).port.tx ≠ none) ∧
    (∀ x ∈ [(true, true, 1), (false, true, 1), (false, false, 1), (false, false, 0)],
      let s := sendable x.1 x.2.1 x.2.2
      s.port.link = .up ∧ s.port.tx = none ∧ s.agr.beaconDue = x.1 ∧ s.req.alertPending = x.2.1 ∧
        s.req.responses = List.replicate x.2.2 { code := 1, result := .ok, requester := 7, tag := 9, data := [] } ∧
        s.pub.ready = none) := by decide +kernel

theorem witness_PublicationLeaves :
    ∀ a ∈ [AsmState.empty, .filling, .complete],
      let s := occupied (assembling .normal a [] (if a = .empty then [] else [mark0]))
      s.port.link = .up ∧ s.port.tx = none ∧ s.agr.beaconDue = false ∧ s.req.alertPending = false ∧ s.req.responses = [] ∧
        s.pub.ready = some (readyFrame [mark0]) ∧ s.pub.asmState = a := by decide +kernel

theorem witness_ReadOutGivesHeldBytes :
    (64 ≤ (List.replicate 68 (7 : Byte)).length) ∧
    (∀ j, j < 64 → ({ record := 3, byte := j } : Upset) ∉ [({ record := 2, byte := 5 } : Upset), { record := 3, byte := 64 }]) ∧
    (∃ j, j < 64 ∧ ({ record := 3, byte := j } : Upset) ∈ [({ record := 3, byte := 63 } : Upset)]) :=
  ⟨by decide, by intro j h; simp; omega, 63, by decide, by decide⟩

theorem witness_SegmentLinkAndFrameEnds :
    ((sending .publication).port.tx = some { kind := .publication, bytes := [] } ∧
      (sending .beacon).port.tx = some { kind := .beacon, bytes := [] } ∧ (sending .beacon).port.link = .up) ∧
    ((at2 .serving).port.tx = none ∧ (at2 .serving).port.link = .up) := by decide +kernel

/-- A segment frame with its destination, type and cage bytes, and its header's identity, as given. -/
def addressedFrame (dest type cage : Nat) (id : Nat) : List Byte :=
  toBE 6 dest ++ toBE 6 0x6A ++ toBE 2 type ++ [1, 6] ++ toBE 2 cage ++ toBE 6 id ++ zeros 36

/-- A state that receives a frame, with a receive queue of `n`. -/
def receiving (n : Nat) : State :=
  { at2 .listen with port := {
      link := .up, rx := some { date := ct 9 0 0 }, rxQueue := List.replicate n { bytes := [], date := ct 9 0 0 } } }

theorem witness_SegmentFramesAreFiltered :
    ((at2 .listen).port.link = .up ∧ (at2 .listen).port.rx = none) ∧
    ((receiving 0).port.rx = some { date := ct 9 0 0 } ∧ (receiving 63).port.rxQueue.length < 64 ∧
      64 ≤ (receiving 64).port.rxQueue.length) ∧
    (¬ 64 ≤ (zeros 63).length) ∧
    (∀ x ∈ [(0x030000000002, 0x88B6, 1, 0x6A), (0x030000000001, 0x88B5, 1, 0x6A), (0x02A0B0C0D0E2, 0x88B6, 2, 0x6A),
        (0x030000000001, 0x88B6, 1, 0x02A0B0C0D0E2), (0x02A0B0C0D0E2, 0x88B6, 1, 0x6A)],
      let bs := addressedFrame x.1 x.2.1 x.2.2.1 x.2.2.2
      bs.length = 60 ∧ (withFcs bs).drop 60 = fcsBytes (crc32 bs) ∧ natAt bs 0 6 = x.1 ∧ natAt bs 12 2 = x.2.1 ∧
        natAt bs 16 2 = x.2.2.1 ∧ natAt bs 18 6 = x.2.2.2) ∧
    (cfg.group.toNat = 0x030000000001 ∧ cfg.typeCode = 0x88B6 ∧ cfg.cageNumber = 1 ∧
      (at2 .listen).loader.identity.toNat = 0x02A0B0C0D0E2) := by decide +kernel

/-- The head of a receive queue of one frame of a kind and content. -/
def headOf (kind : Nat) (content : List Byte) : RxFrame :=
  { bytes := (segmentFrame kind content).take ((segmentFrame kind content).length - 4), date := ct 9 0 0 }

theorem witness_DispatchByKind :
    (∀ x ∈ [(1, zeros 23), (1, [5, 2, 1, 16] ++ zeros 20), (1, [5, 2, 1, 1] ++ zeros 43), (1, [5, 2, 1, 0] ++ zeros 20),
        (2, zeros 15), (2, zeros 16), (3, requestContent 2 2 [0]), (3, requestContent 3 2 [0, 40]), (4, []), (5, []), (0, []), (6, [])],
      (received (at2 .serving) x.1 x.2).port.rxQueue = [headOf x.1 x.2] ∧ (at2 .serving).agr.inbox = none ∧
        natAt (headOf x.1 x.2).bytes 14 1 = x.1 ∧ natAt (headOf x.1 x.2).bytes 24 2 = x.2.length ∧
        26 + x.2.length ≤ (headOf x.1 x.2).bytes.length ∧ slice (headOf x.1 x.2).bytes 26 x.2.length = x.2) ∧
    (heardFrom (received (at2 .serving) 4 []) 5 1 1).agr.inbox ≠ none ∧
    (holding .serving 6 [claimRecord]).arbiter.frame ≠ none ∧
    ((headOf 4 (zeros 40)).bytes.dropLast).length < 26 + natAt ((headOf 4 (zeros 40)).bytes.dropLast) 24 2 := by decide +kernel

/-- The content of a publication frame of number `n` and no record. -/
def emptyPublication (n : Nat) : List Byte := toBE 4 n ++ zeros 12

/-- The content of a publication frame that claims three records: one of 32 bytes, one whose length is 24, and one more. -/
def cutPublication : List Byte :=
  [0, 0, 0, 45, 2, 3] ++ zeros 10 ++ ([3, 1, 0, 32] ++ zeros 28) ++ ([3, 1, 0, 24] ++ zeros 20) ++ ([3, 1, 0, 32] ++ zeros 28)

/-- Peer 6, of the identity that `segmentFrame` writes, with a last publication frame. -/
def peer6 (last : Option Nat) : Peer := { station := 6, identity := 0x6A, deadline := 9000000, lastPubFrame := last }

theorem witness_PublicationFramesAreChecked :
    (∀ c ∈ [emptyPublication 45, cutPublication],
      let bs := (headOf 2 c).bytes
      natAt bs 12 2 ≠ 0x8100 ∧ natAt bs 12 2 ≠ 0x88A8 ∧ natAt bs 14 1 = 2 ∧ 26 + natAt bs 24 2 ≤ bs.length ∧ 16 ≤ natAt bs 24 2) ∧
    readFrame (headOf 2 cutPublication).bytes = .publication 6 0x6A 45 [[3, 1, 0, 32] ++ zeros 28] ∧
    (∀ n ∈ [45, 46, 2147483692, 2147483693, 44],
      (received (at2 .serving) 2 (emptyPublication n)).port.rxQueue = [headOf 2 (emptyPublication n)] ∧
      (at2 .serving).agr.inbox = none ∧ (at2 .serving).arbiter.frame = none ∧
      readFrame (headOf 2 (emptyPublication n)).bytes = .publication 6 0x6A n []) ∧
    (∀ p ∈ [peer5 .heard], p.station ≠ 6 ∨ p.identity ≠ 0x6A) ∧
    ((peered (at2 .serving) (peer6 (some 44))).agr.peers = [] ++ peer6 (some 44) :: [] ∧ (peer6 (some 44)).station = 6 ∧
      (peer6 (some 44)).identity = 0x6A ∧ (peer6 none).lastPubFrame = none) ∧
    ((45 - 44 : Int) % 4294967296 = 1 ∧ (2147483692 - 44 : Int) % 4294967296 = 2147483648 ∧
      (2147483693 - 44 : Int) % 4294967296 = 2147483649 ∧ (44 - 44 : Int) % 4294967296 = 0) := by decide +kernel

/-- A state with so many requests and responses, and a request frame at the head of the receive queue. -/
def requested (st : StationState) (n m target code : Nat) : State :=
  let s := received (at2 st) 3 (requestContent target code [])
  { s with req := { s.req with
      queue := List.replicate n (request 1 []),
      responses := List.replicate m { code := 1, result := .ok, requester := 7, tag := 9, data := [] } } }

theorem witness_RequestsArrive :
    ∀ x ∈ [(1, 4, 2), (2, 3, 255), (2, 4, 2)],
      let s := requested .serving x.1 x.2.1 x.2.2 4
      s.port.rxQueue = [headOf 3 (requestContent x.2.2 4 [])] ∧ s.agr.inbox = none ∧
        readFrame (headOf 3 (requestContent x.2.2 4 [])).bytes = .request x.2.2 (request 4 []) ∧
        (x.2.2 = s.loader.station ∨ x.2.2 = 255) ∧ (request 4 []).code ≠ 10 ∧ s.req.queue.length = x.1 ∧
        s.req.responses.length = x.2.1 := by decide +kernel

theorem witness_RestartStartsAfresh :
    ∀ x ∈ [(StationState.loading, 0, 3), (.halted, 0, 4), (.serving, 2, 4), (.conflict, 1, 0)],
      let s := requested x.1 x.2.1 x.2.2 2 10
      s.port.rxQueue = [headOf 3 (requestContent 2 10 [])] ∧ s.agr.inbox = none ∧
        readFrame (headOf 3 (requestContent 2 10 [])).bytes = .request 2 (request 10 []) ∧
        2 = s.loader.station ∧ (request 10 []).code = 10 ∧ s.req.responses.length ≤ 4 ∧ s.loader.state = x.1 ∧
        s.req.responses.length = x.2.2 := by decide +kernel

/-! Requests -/

/-- The state with a request at the head and so many responses. -/
def askedFull (st : StationState) (code m : Nat) (args : List Byte) : State :=
  let s := asked (at2 st) code args
  { s with req := { s.req with responses := List.replicate m { code := 1, result := .ok, requester := 7, tag := 9, data := [] } } }

theorem witness_ReportsAnswered :
    (∀ x ∈ [(1, []), (2, [0, 41]), (2, [0, 42]), (2, [255, 255]), (3, [])],
      (askedFull .acquire x.1 3 x.2).req.queue = [request x.1 x.2] ∧ (askedFull .acquire x.1 3 x.2).req.responses.length < 4 ∧
        (askedFull .acquire x.1 3 x.2).loader.state = .acquire) ∧
    (∀ g ∈ (at2 .acquire).feeds, g.cfg.feed ≠ natAt [0, 42] 0 2 ∧ g.cfg.feed ≠ natAt [255, 255] 0 2) ∧
    ((at2 .acquire).feeds = [{ cfg := feed40 }] ++ { cfg := feed41 } :: [] ∧ feed41.feed = natAt [0, 41] 0 2 ∧
      feed40.feed ≠ natAt [0, 41] 0 2 ∧ natAt [0, 255] 0 2 ≤ 255) ∧
    (let parts := statusBlocks.map (fun b => ({ block := b, items := [1] } : Part))
     (∀ b ∈ statusBlocks, parts.find? (fun p => decide (p.block = b)) = some { block := b, items := [1] }) ∧
       (∀ p ∈ parts.drop 1, p.block ≠ .loader) ∧ (∃ p ∈ parts, p.block = .line 7) ∧ Block.classifier ∉ statusBlocks) := by
  decide +kernel

/-- The state with a STATUS or a CLEAR_COUNTS at the head, of which some blocks have taken their part. -/
def partly (st : StationState) (code m : Nat) (blocks : List Block) : State :=
  let s := askedFull st code m []
  { s with req := { s.req with parts := blocks.map (fun b => { block := b, items := [] }) } }

theorem witness_ClearCountsZeroes :
    (∀ st ∈ [StationState.listen, .acquire, .serving], (partly st 4 3 []).req.queue = [request 4 []] ∧
      (partly st 4 3 []).req.responses.length < 4 ∧ (partly st 4 3 []).loader.state = st ∧ (partly st 4 3 []).req.parts = []) ∧
    (∃ p ∈ (partly .serving 4 3 [.line 0]).req.parts, p.block = .line 0) ∧
    (¬ ∃ p ∈ (partly .serving 4 3 [.line 0]).req.parts, p.block = .line 7) ∧
    (∀ b ∈ countingBlocks, ∃ p ∈ (partly .serving 4 3 countingBlocks).req.parts, p.block = b) := by decide +kernel

theorem witness_SetSecondsHandsOver :
    (askedFull .serving 5 3 (toBE 8 281474976710655)).req.queue = [request 5 (toBE 8 281474976710655)] ∧
      (askedFull .serving 5 3 (toBE 8 281474976710655)).req.responses.length < 4 ∧
      (askedFull .serving 5 3 (toBE 8 281474976710655)).loader.state = .serving ∧
      natAt (toBE 8 281474976710655) 0 8 ≤ 281474976710655 ∧ 281474976710655 < natAt (toBE 8 281474976710656) 0 8 ∧
      (at2 .serving).req.latch = false ∧ (at2 .serving).clock.pendingSeconds = none ∧
      ({ latch := true } : ReqHandler).latch = true := by decide +kernel

theorem witness_AlertsAndTheirGate :
    (({ set := 1 } : ReqHandler).set &&& Condition.lineDown.bit ≠ 0 ∧ ({} : ReqHandler).set &&& Condition.configClamped.bit = 0) ∧
    (∀ x ∈ [(8, [0, 0, 127, 255]), (8, [0, 0, 128, 0]), (9, [0, 0, 127, 255]), (9, [0, 0, 128, 0])],
      (askedFull .listen x.1 3 x.2).req.queue = [request x.1 x.2] ∧ (askedFull .listen x.1 3 x.2).req.responses.length < 4 ∧
        (askedFull .listen x.1 3 x.2).loader.state = .listen) ∧
    natAt [0, 0, 127, 255] 0 4 < 32768 ∧ 32768 ≤ natAt [0, 0, 128, 0] 0 4 := by decide +kernel

theorem witness_RequestsRefused :
    (∀ st ∈ [StationState.loading, .halted, .conflict], ∀ code ∈ [2, 3, 4, 5, 6, 7, 8, 9], ∀ m ∈ [3, 4],
      (askedFull st code m []).req.queue = [request code []] ∧ (request code []).code = code ∧
        (askedFull st code m []).req.responses.length = m ∧ (askedFull st code m []).loader.state = st) ∧
    (∀ st ∈ [StationState.listen, .acquire], ∀ code ∈ [6, 7],
      (askedFull st code 3 []).req.queue = [request code []] ∧ (askedFull st code 3 []).loader.state = st) ∧
    (∀ code ∈ [0, 11, 255, 1], (askedFull .serving code 4 []).req.queue = [request code []] ∧
      4 ≤ (askedFull .serving code 4 []).req.responses.length) ∧
    (∀ b ∈ statusBlocks, ∃ p ∈ (partly .conflict 1 4 statusBlocks).req.parts, p.block = b) ∧
    4 ≤ (partly .conflict 1 4 statusBlocks).req.responses.length ∧
    (let s := requested .loading 0 4 2 10
     s.port.rxQueue = [headOf 3 (requestContent 2 10 [])] ∧ s.agr.inbox = none ∧
       readFrame (headOf 3 (requestContent 2 10 [])).bytes = .request 2 (request 10 []) ∧ 2 = s.loader.station ∧
       s.loader.state = .loading ∧ 4 ≤ s.req.responses.length) := by decide +kernel
/-! The Loader -/

/-- The bytes of an image of `n` feed entries before its CRC: tag, length field and entries as given, the rest of its fixed
fields zero. -/
def imageHead (tag : Byte) (size n : Nat) (entries : List Byte) : List Byte :=
  [tag, 0x54, 0x38, 0x31] ++ toBE 4 size ++ zeros 100 ++ toBE 2 n ++ [0, 0] ++ entries

/-- With the CRC of what is before it. -/
def imageOf (head : List Byte) : List Byte := head ++ toBE 4 (crc32 head).toNat

/-- A feed entry: number, A line, B line, the last byte of its group address and its port (section 12.6). -/
def entryOf (feed a b g : Byte) : List Byte :=
  [feed, a, b, 0, 0, 0, 0, 0, 0xE9, 0, 0, g, 0x4E, 0x20] ++ zeros 26

/-- Such an image's CRC field holds the CRC of what is before it, whatever that is. -/
theorem imageOf_crc (head : List Byte) (k : Nat) (h : head.length = k) :
    natAt (imageOf head) k 4 = (crc32 ((imageOf head).take k)).toNat := by
  subst h
  have e : slice (imageOf head) head.length 4 = toBE 4 (crc32 head).toNat := by
    simp [slice, imageOf, List.take_of_length_le]
  have t : (imageOf head).take head.length = head := by simp [imageOf]
  rw [natAt, e, t]
  exact fromBE_toBE_of_lt (crc32 head).isLt

theorem witness_ImageReadDecides :
    State.reset.loader.state = .loading ∧ imageFault [] = some .badTag ∧ imageFault image0 = none :=
  ⟨rfl, by decide +kernel, image0_passes⟩

/-- The images of two entries: alike in a line out of range, in equal lines, in a number, in an address, and good. -/
def twoEntries (e : List Byte) : List Byte := imageOf (imageHead 0x4C 196 2 e)

theorem witness_ImageTestsInOrder :
    (∀ e ∈ [entryOf 1 8 255 1 ++ entryOf 2 0 1 2, entryOf 1 7 7 1 ++ entryOf 2 0 1 2, entryOf 1 0 1 1 ++ entryOf 1 0 1 2,
        entryOf 1 0 1 1 ++ entryOf 2 0 1 1, entryOf 1 7 255 1 ++ entryOf 2 0 7 2],
      (twoEntries e).length = 116 + 40 * 2 ∧ natAt (twoEntries e) 108 2 = 2 ∧ (twoEntries e).take 4 = [0x4C, 0x54, 0x38, 0x31] ∧
        natAt (twoEntries e) 4 4 = 116 + 40 * 2 ∧ slice (twoEntries e) 112 40 ++ slice (twoEntries e) 152 40 = e) ∧
    (∀ e, e.length = 80 → natAt (twoEntries e) 192 4 = (crc32 ((twoEntries e).take 192)).toNat) ∧
    ((imageHead 0x4D 116 0 [0, 0, 0, 0]).length = 116 ∧ (imageHead 0x4D 116 0 [0, 0, 0, 0]).take 4 ≠ [0x4C, 0x54, 0x38, 0x31] ∧
      natAt (imageHead 0x4C 117 0 [0, 0, 0, 0]) 4 4 ≠ 116 ∧ natAt (imageHead 0x4C 116 0 [0, 0, 0, 0]) 112 4 = 0) ∧
    ((readFlash [] 112).take 4 ≠ [0x4C, 0x54, 0x38, 0x31] ∧
      (readFlash (imageHead 0x4C 1436 33 []) 112).take 4 = [0x4C, 0x54, 0x38, 0x31] ∧
      natAt (readFlash (imageHead 0x4C 1436 33 []) 112) 108 2 = 33) := by
  refine ⟨by decide +kernel, ?_, by decide +kernel, by decide +kernel⟩
  intro e h
  exact imageOf_crc _ 192 (by simp [imageHead, zeros, toBE, h])

/-! Sound states -/

/-- A SERVING station with something in every block: a marked frame of one byte and one page, an arrival queued, a frame under
assembly, gaps and a range log, a PAIRED peer, a condition set behind a shut gate. -/
def rich : State :=
  { at2 .serving with
    lines := (PerLine.all {}).set 1 { liveLine with frame := some { markedFrame 1 1 1 with
      chain := some { line := 1, pages := [[Cell.write 7]], stored := 1 } } },
    pool := { free := 4095, held := (PerLine.all 0).set 1 1, low := 4000 },
    feeds := [{ cfg := feed40, table := table57 }, { cfg := feed41 }],
    arrivals := [arrived 902 1],
    agr := { (at2 .serving).agr with peers := [{ peer5 .paired with ring := [{ offset := 480, delay := 1600, tick := 999999 }] }],
                                     departures := [ct 8 0 0] },
    pub := { queue := [mark0], asm := [mark0], asmState := .filling, batchTimer := some 1000500 },
    req := { (at2 .serving).req with
      queue := [request 1 []], parts := [{ block := .pool, items := [1] }, { block := .line 7, items := [2] }],
      set := 1, fresh := 1, gateOpen := false } }

theorem rich_WithinLimits : rich.WithinLimits ∧ rich.req.GateSound := by
  unfold State.WithinLimits ReqHandler.GateSound
  exact ⟨⟨by decide +kernel, by decide +kernel, by decide +kernel, by decide +kernel, by decide +kernel, by decide +kernel,
    by decide +kernel, by decide +kernel⟩, by decide +kernel, by decide +kernel⟩

theorem rich_PoolSound : rich.PoolSound := by
  refine ⟨by decide +kernel, by decide +kernel, by decide +kernel, by decide +kernel, ?_⟩
  intro i
  fin_cases i
  all_goals first
    | exact trivial
    | (intro k hk; cases hk; exact ⟨rfl, rfl, rfl⟩)

theorem rich_LinesSound : rich.LinesSound := by
  unfold State.LinesSound LineRx.Sound
  decide +kernel

theorem rich_TablesSound : rich.TablesSound := by
  intro f hf
  rcases List.mem_cons.1 hf with rfl | hf
  · exact ⟨table57_sound, table57_apart⟩
  · rcases List.mem_cons.1 hf with rfl | hf
    · exact ⟨⟨rfl, rfl⟩, .nil, fun _ h => nomatch h⟩
    · cases hf

theorem rich_PartsSound : rich.req.PartsSound :=
  .inr ⟨request 1 [], [], rfl, by decide +kernel, .inl ⟨rfl, by decide +kernel⟩⟩

theorem rich_StateSound : rich.StateSound := by
  unfold State.StateSound
  exact ⟨.inr (.inr (.inl rfl)), rfl, (fun h => nomatch h), rfl, rfl, (fun h => nomatch h), (fun h => nomatch h)⟩

theorem rich_ServiceSound : rich.ServiceSound := by
  refine ⟨fun h => absurd rfl h, ?_, ?_, ?_⟩ <;> decide +kernel

theorem rich_PeersSound : rich.PeersSound := by
  unfold State.PeersSound
  decide +kernel

theorem rich_InRange : rich.clock.InRange := by
  unfold Clock.InRange
  decide +kernel

/-- That station with a command at the front of its queue. -/
def richly (c : Instr) : State := { rich with pending := [c] }

theorem witness_PowerOnIsSound : State.reset.loader.state = .loading ∧ (15 : Fin 16).val = 15 := by decide +kernel

theorem witness_LimitsAndGateKept :
    ∃ t, step (richly (.status (some .loader))) = .next t ∧ (richly (.status (some .loader))).WithinLimits ∧
      (richly (.status (some .loader))).req.GateSound ∧ (richly (.status (some .loader))).req.PartsSound :=
  ⟨_, rfl, rich_WithinLimits.1, rich_WithinLimits.2, rich_PartsSound⟩

theorem witness_ClockLinesPeersKept :
    ∃ t, step (richly .localTick) = .next t ∧ (richly .localTick).clock.InRange ∧ (richly .localTick).LinesSound ∧
      (richly .localTick).PeersSound :=
  ⟨_, rfl, rich_InRange, rich_LinesSound, rich_PeersSound⟩

theorem witness_PagesAccountedFor :
    ∃ t, (richly (.frameEnd 1)).PoolSound ∧ step (richly (.frameEnd 1)) = .next t ∧ t.handOffs ≠ [] :=
  ⟨_, rich_PoolSound, rfl, by decide +kernel⟩

theorem witness_StateCorrespondenceKept : ∃ t, (richly .roundEnd).StateSound ∧ step (richly .roundEnd) = .next t :=
  ⟨_, rich_StateSound, rfl⟩

theorem witness_ServiceOnlyInServing :
    ∃ t, (richly .recordEntersFrame).ServiceSound ∧ step (richly .recordEntersFrame) = .next t ∧ t.pub.asm.length = 2 :=
  ⟨_, rich_ServiceSound, rfl, by decide +kernel⟩

theorem witness_TablesStaySound :
    ∃ t, (richly (.localArrival 0)).TablesSound ∧ step (richly (.localArrival 0)) = .next t ∧ t.arrivals = [] :=
  ⟨_, rich_TablesSound, rfl, by decide +kernel⟩

/-- The conflict of a smaller identity, for the station of `rich`. -/
theorem witness_StationStateChanges :
    (∃ t, (richly .localTick).StateSound ∧ exec (.powerOn 3) (richly .localTick) = .next t ∧ t.loader.state ≠ .serving) ∧
    ∃ s t, s.StateSound ∧ exec .beaconTaken s = .next t ∧ s.loader.state = .serving ∧ t.loader.state = .conflict :=
  ⟨⟨_, rich_StateSound, rfl, by decide +kernel⟩,
   ⟨heardFrom (richly .localTick) 2 1 5, _, rich_StateSound, rfl, rfl, by decide +kernel⟩⟩

/-! Frames read back -/

/-- The largest valid cage time. -/
def latest : CageTime := ct 281474976710655 999999999 3

theorem witness_BeaconsAreReadBack :
    let b : Beacon := { beacon 255 0xFFFFFFFFFFFF with
      state := 255, agreement := 255, anchor := 255, spread := 4294967295, number := 4294967295, departure := latest,
      echoes := List.replicate 15 { station := 255, t1 := latest, t2 := latest } }
    ((at2 .serving).typeCode < 65536 ∧ (at2 .serving).typeCode ≠ 0x8100 ∧ (at2 .serving).typeCode ≠ 0x88A8) ∧
    (b.station < 256 ∧ b.state < 256 ∧ b.agreement < 256 ∧ b.anchor < 256 ∧ b.spread < 4294967296 ∧ b.number < 4294967296 ∧
      b.echoes.length ≤ 15) ∧
    (∀ d ∈ b.departure :: b.echoes.flatMap (fun e => [e.t1, e.t2]),
      d.sec < 281474976710656 ∧ d.ns < 1000000000 ∧ d.quarter < 4) ∧
    (∀ e ∈ b.echoes, e.station < 256) ∧
    (let s := receiving 0
     let p : State := { s with loader := { s.loader with identity := 0x6A } }
     s.port.rx = some { date := ct 9 0 0 } ∧ p.port.rx = some { date := ct 9 0 0 } ∧ p.port.rxQueue.length < 64 ∧
       s.loader.config = some cfg ∧ cfg.cageNumber < 65536 ∧ s.typeCode = (at2 .serving).typeCode ∧
       (zeros 9186).length ≤ 9186 ∧ p.loader.config = s.loader.config ∧ p.loader.identity ≠ s.loader.identity) := by decide +kernel

theorem witness_PublicationsAreReadBack :
    [(1 : Byte), 2, 3][1 + 1]? = some 3 ∧
    let r := readyFrame (List.replicate 5 (arrival .fill 1532) ++ List.replicate 10 (arrival .fill 0) ++ [arrival .fill 256])
    ((at2 .serving).typeCode < 65536 ∧ (at2 .serving).typeCode ≠ 0x8100 ∧ (at2 .serving).typeCode ≠ 0x88A8) ∧
    r.station < 256 ∧ r.number < 4294967296 ∧ r.records.length ≤ 16 ∧ (r.records.map Record.encodedLength).sum ≤ 8960 ∧
    (let timed := fun (d : CageTime) => d.sec < 281474976710656 ∧ d.ns < 1000000000 ∧ d.quarter < 4
     timed latest ∧ (List.replicate 1536 (7 : Byte)).length ≤ 1536 ∧ 255 < 256 ∧ 18446744073709486081 + 65535 ≤ 18446744073709551616 ∧
       Verdict.takeover.isClaim = true ∧ Verdict.keepalive.isClaim = false ∧ 1 ≤ 65535 ∧ 4294967295 < 4294967296 ∧
       (let w : Winner := { station := 15, line := 7, date := latest }
        w.station ≤ 15 ∧ w.line ≤ 7 ∧ timed w.date) ∧
       (({ dates := some (latest, latest) } : ShedCounts).dates = some (latest, latest) ∧ ({} : ShedCounts).dates = none)) := by
  decide +kernel

end Sys2Proof.Tests
end

section
/-! ## What a command does to each block

Every command answers a next state, so a command is a function of the state; and each leaves most blocks alone. The table
`touched` says once which blocks each command can change (95, what each step holds), and `effect_sameBut` that it does: an
invariant about one block is then proved over the few commands that touch it. -/

namespace Sys2Proof.Machine

set_option Elab.async false

/-- The state a command leads to. -/
def effect : Instr → State → State
  | .powerOn straps => powerOn straps
  | .linkUp i => lineLinkUp i
  | .linkLoss i => lineLinkLoss i
  | .settleTimerExpiry i => settleExpiry i
  | .silenceTimerExpiry i => silenceExpiry i
  | .startDelimiter i phase => startFrame i phase
  | .frameByte i b codeError => frameByte i b codeError
  | .frameEnd i => frameEnd i
  | .classifyHandOff i => classifyHandOff i
  | .localArrival i => localArrival i
  | .gapExpiry i => gapExpiry i
  | .peerRecord => peerRecord
  | .pulse ago phase => pulse ago phase
  | .pulseWindowExpiry => pulseWindowExpiry
  | .clockStep => clockStep
  | .secondsWrite => secondsWrite
  | .beaconTimerExpiry => beaconTimerExpiry
  | .beaconTaken => beaconTaken
  | .silenceDeadline n => silenceDeadline n
  | .roundEnd => roundEnd
  | .recordTaken m => recordTaken m
  | .recordEntersFrame => recordEntersFrame
  | .batchTimerExpiry => batchTimerExpiry
  | .markFire => markFire
  | .transmitChoice phase upsets => transmitChoice phase upsets
  | .segmentTxEnd => segmentTxEnd
  | .segmentLinkUp => segmentLinkUp
  | .segmentLinkLoss => segmentLinkLoss
  | .segmentFrameReceived bytes codeError => segmentFrameReceived bytes codeError
  | .dispatch straps => dispatch straps
  | .status part => status part
  | .feedReport => feedReportRequest
  | .peerReport => peerReportRequest
  | .clearCounts part => clearCountsRequest part
  | .setSeconds => setSecondsRequest
  | .mark => markRequest
  | .cancelMark => cancelMarkRequest
  | .setAlertEnables => setAlertEnablesRequest
  | .ackAlerts => ackAlertsRequest
  | .unknownRequest => unknownRequest
  | .imageReadDone flash => imageReadDone flash
  | .localTick => localTick
  | .segmentStartDelimiter phase => segmentStart phase

/-- Every command answers the state it leads to. -/
theorem exec_eq_effect (c : Instr) (s : State) : exec c s = .next (effect c s) := by
  cases c <;> rfl

/-- What is kept by every command, and does not look at the commands that wait, is kept by every step. -/
theorem step_keeps {P : State → Prop} (hpending : ∀ s cs, P s → P (s.withPending cs))
    (heffect : ∀ c s, P s → P (effect c s)) {s t : State} (hstep : step s = .next t) (h : P s) : P t := by
  unfold step at hstep
  split at hstep
  · cases hstep; exact h
  · rw [exec_eq_effect] at hstep
    cases hstep
    exact heffect _ _ (hpending _ _ h)

/-- The blocks that a command can change. -/
structure Touched where
  loader : Bool := false
  clock : Bool := false
  agr : Bool := false
  lines : Bool := false
  handOffs : Bool := false
  arrivals : Bool := false
  arbiter : Bool := false
  feeds : Bool := false
  pool : Bool := false
  pub : Bool := false
  port : Bool := false
  req : Bool := false

/-- Every block not touched is as it was, and so are the commands that wait. -/
structure SameBut (w : Touched) (s t : State) : Prop where
  loader : w.loader = false → t.loader = s.loader
  clock : w.clock = false → t.clock = s.clock
  agr : w.agr = false → t.agr = s.agr
  lines : w.lines = false → t.lines = s.lines
  handOffs : w.handOffs = false → t.handOffs = s.handOffs
  arrivals : w.arrivals = false → t.arrivals = s.arrivals
  arbiter : w.arbiter = false → t.arbiter = s.arbiter
  feeds : w.feeds = false → t.feeds = s.feeds
  pool : w.pool = false → t.pool = s.pool
  pub : w.pub = false → t.pub = s.pub
  port : w.port = false → t.port = s.port
  req : w.req = false → t.req = s.req
  pending : t.pending = s.pending

/-- Every block may be touched. -/
def Touched.all : Touched := ⟨true, true, true, true, true, true, true, true, true, true, true, true⟩

theorem SameBut.refl (w : Touched) (s : State) : SameBut w s s := by constructor <;> simp

theorem SameBut.trans {w : Touched} {s t u : State} (h : SameBut w s t) (k : SameBut w t u) : SameBut w s u where
  loader hw := (k.loader hw).trans (h.loader hw)
  clock hw := (k.clock hw).trans (h.clock hw)
  agr hw := (k.agr hw).trans (h.agr hw)
  lines hw := (k.lines hw).trans (h.lines hw)
  handOffs hw := (k.handOffs hw).trans (h.handOffs hw)
  arrivals hw := (k.arrivals hw).trans (h.arrivals hw)
  arbiter hw := (k.arbiter hw).trans (h.arbiter hw)
  feeds hw := (k.feeds hw).trans (h.feeds hw)
  pool hw := (k.pool hw).trans (h.pool hw)
  pub hw := (k.pub hw).trans (h.pub hw)
  port hw := (k.port hw).trans (h.port hw)
  req hw := (k.req hw).trans (h.req hw)
  pending := k.pending.trans h.pending

theorem sameBut_all {s t : State} (h : t.pending = s.pending) : SameBut .all s t := by
  constructor <;> simp [Touched.all, h]

/-- The blocks that each command can change. -/
def touched : Instr → Touched
  | .powerOn _ => .all
  | .linkUp _ => { lines := true }
  | .linkLoss _ => { lines := true, pool := true, req := true }
  | .settleTimerExpiry _ => { lines := true, req := true }
  | .silenceTimerExpiry _ => { lines := true, req := true }
  | .startDelimiter _ _ => { lines := true }
  | .frameByte _ _ _ => { lines := true, pool := true, req := true }
  | .frameEnd _ => { lines := true, handOffs := true, pool := true }
  | .classifyHandOff _ => { lines := true, handOffs := true, arrivals := true, feeds := true, pool := true, pub := true }
  | .localArrival _ => { arrivals := true, feeds := true, pool := true, pub := true }
  | .gapExpiry _ => { feeds := true, pub := true, req := true }
  | .peerRecord => { arbiter := true, feeds := true, pub := true }
  | .pulse _ _ => { clock := true, req := true }
  | .pulseWindowExpiry => { clock := true, req := true }
  | .clockStep => { loader := true, clock := true, agr := true, port := true, req := true }
  | .secondsWrite => { clock := true, agr := true, port := true, req := true }
  | .beaconTimerExpiry => { agr := true }
  | .beaconTaken => .all
  | .silenceDeadline _ => { agr := true, req := true }
  | .roundEnd => { loader := true, clock := true, agr := true, req := true }
  | .recordTaken _ => { feeds := true, pool := true, pub := true, req := true }
  | .recordEntersFrame => { feeds := true, pub := true }
  | .batchTimerExpiry => { pub := true }
  | .markFire => { pub := true }
  | .transmitChoice _ _ => { agr := true, pool := true, pub := true, port := true, req := true }
  | .segmentTxEnd => { pub := true, port := true }
  | .segmentLinkUp => { port := true }
  | .segmentLinkLoss => { agr := true, pub := true, port := true }
  | .segmentFrameReceived _ _ => { port := true, req := true }
  | .dispatch _ => .all
  | .status _ => { req := true }
  | .feedReport => { req := true }
  | .peerReport => { req := true }
  | .clearCounts _ =>
    { clock := true, agr := true, lines := true, arbiter := true, feeds := true, pool := true, pub := true, port := true, req := true }
  | .setSeconds => { clock := true, req := true }
  | .mark => { pub := true, req := true }
  | .cancelMark => { pub := true, req := true }
  | .setAlertEnables => { req := true }
  | .ackAlerts => { req := true }
  | .unknownRequest => { req := true }
  | .imageReadDone _ =>
    { loader := true, clock := true, agr := true, lines := true, feeds := true, req := true }
  | .localTick => { clock := true }
  | .segmentStartDelimiter _ => { port := true }

/-! ### Requests at the head -/

/-- What a request command can do: nothing, when the head is of another code; a refusal by the station state; or the act itself,
in a state that permits it. -/
theorem State.carryOut_cases (s : State) (code : Nat) (act : Request → State) :
    s.carryOut code act = s ∨ s.carryOut code act = s.finish .wrongState [] ∨
      ∃ q, permitted s.loader.state code = true ∧ q.code = code ∧ s.req.queue.head? = some q ∧ s.carryOut code act = act q := by
  unfold State.carryOut
  split
  · exact .inl rfl
  next q rest hq =>
    split
    next hcode =>
      split
      next hp => exact .inr (.inr ⟨q, hp, hcode, by simp [hq], rfl⟩)
      next => exact .inr (.inl rfl)
    next => exact .inl rfl

/-- A request command leaves what every one of its acts leaves, when it is one that may answer. -/
theorem State.carryOut_sameBut {w : Touched} (hw : w.req = true) (s : State) (code : Nat) (act : Request → State)
    (h : ∀ q, SameBut w s (act q)) : SameBut w s (s.carryOut code act) := by
  rcases s.carryOut_cases code act with e | e | ⟨q, -, -, -, e⟩ <;> rw [e]
  · exact .refl w s
  · constructor <;> simp [hw]
  · exact h q

theorem State.finish_sameBut {w : Touched} (hw : w.req = true) (s : State) (r : Result) (d : List Byte) :
    SameBut w s (s.finish r d) := by
  constructor <;> simp [hw]

/-! ### Each command -/

theorem lineLinkUp_sameBut (i : Line) (s : State) : SameBut { lines := true } s (lineLinkUp i s) := by
  unfold lineLinkUp
  split <;> constructor <;> simp

theorem lineLinkLoss_sameBut (i : Line) (s : State) :
    SameBut { lines := true, pool := true, req := true } s (lineLinkLoss i s) := by
  unfold lineLinkLoss
  split <;> constructor <;> simp

theorem settleExpiry_sameBut (i : Line) (s : State) : SameBut { lines := true, req := true } s (settleExpiry i s) := by
  unfold settleExpiry
  dsimp only
  repeat' split
  all_goals constructor <;> simp

theorem silenceExpiry_sameBut (i : Line) (s : State) : SameBut { lines := true, req := true } s (silenceExpiry i s) := by
  unfold silenceExpiry
  split <;> constructor <;> simp

theorem startFrame_sameBut (i : Line) (phase : Fin 16) (s : State) : SameBut { lines := true } s (startFrame i phase s) := by
  unfold startFrame
  split <;> constructor <;> simp

theorem frameByte_sameBut (i : Line) (b : Byte) (codeError : Bool) (s : State) :
    SameBut { lines := true, pool := true, req := true } s (frameByte i b codeError s) := by
  unfold frameByte
  dsimp only
  repeat' split
  all_goals constructor <;> simp

theorem frameEnd_sameBut (i : Line) (s : State) :
    SameBut { lines := true, handOffs := true, pool := true } s (frameEnd i s) := by
  unfold frameEnd
  dsimp only
  repeat' split
  all_goals constructor <;> simp

theorem classifyHandOff_sameBut (i : Line) (s : State) :
    SameBut { lines := true, handOffs := true, arrivals := true, feeds := true, pool := true, pub := true } s
      (classifyHandOff i s) := by
  unfold classifyHandOff State.classified
  dsimp only
  repeat' split
  all_goals constructor <;> simp

theorem localArrival_sameBut (i : Line) (s : State) :
    SameBut { arrivals := true, feeds := true, pool := true, pub := true } s (localArrival i s) := by
  unfold localArrival State.takeArrival
  dsimp only
  repeat' split
  all_goals constructor <;> simp

theorem gapExpiry_sameBut (i : Fin 32) (s : State) :
    SameBut { feeds := true, pub := true, req := true } s (gapExpiry i s) := by
  unfold gapExpiry
  dsimp only
  repeat' split
  all_goals constructor <;> simp

theorem State.takeRecord_sameBut (s : State) (r : List Byte) (q : Nat) :
    SameBut { arbiter := true, feeds := true, pub := true } s (s.takeRecord r q) := by
  unfold State.takeRecord State.recordAtTable
  dsimp only
  repeat' split
  all_goals constructor <;> simp

theorem peerRecord_sameBut (s : State) : SameBut { arbiter := true, feeds := true, pub := true } s (peerRecord s) := by
  have hframe (a : Arbiter) : SameBut { arbiter := true, feeds := true, pub := true } s { s with arbiter := a } := by
    constructor <;> simp
  unfold peerRecord
  split
  · exact .refl _ _
  split
  · exact hframe _
  split
  · exact hframe _
  · exact (hframe _).trans (State.takeRecord_sameBut _ _ _)

theorem pulse_sameBut (ago : Nat) (phase : Fin 16) (s : State) : SameBut { clock := true, req := true } s (pulse ago phase s) := by
  unfold pulse
  repeat' split
  all_goals constructor <;> simp

theorem pulseWindowExpiry_sameBut (s : State) : SameBut { clock := true, req := true } s (pulseWindowExpiry s) := by
  unfold pulseWindowExpiry
  split <;> constructor <;> simp

theorem clockStep_sameBut (s : State) :
    SameBut { loader := true, clock := true, agr := true, port := true, req := true } s (clockStep s) := by
  unfold clockStep
  dsimp only
  repeat' split
  all_goals constructor <;> simp

theorem secondsWrite_sameBut (s : State) :
    SameBut { clock := true, agr := true, port := true, req := true } s (secondsWrite s) := by
  unfold secondsWrite
  dsimp only
  repeat' split
  all_goals constructor <;> simp

theorem beaconTimerExpiry_sameBut (s : State) : SameBut { agr := true } s (beaconTimerExpiry s) := by
  unfold beaconTimerExpiry
  split <;> constructor <;> simp

theorem beaconTaken_pending (s : State) : (beaconTaken s).pending = s.pending := by
  unfold beaconTaken State.hearBeacon State.enterConflict State.leaveService State.surviveConflict
  dsimp only
  repeat' split
  all_goals simp

theorem silenceDeadline_sameBut (n : Fin 16) (s : State) :
    SameBut { agr := true, req := true } s (silenceDeadline n s) := by
  unfold silenceDeadline
  dsimp only
  repeat' split
  all_goals constructor <;> simp

theorem roundEnd_sameBut (s : State) :
    SameBut { loader := true, clock := true, agr := true, req := true } s (roundEnd s) := by
  unfold roundEnd State.roundInListen State.roundInAcquire
  dsimp only
  repeat' split
  all_goals constructor <;> simp

theorem recordTaken_sameBut (m : Maker) (s : State) :
    SameBut { feeds := true, pool := true, pub := true, req := true } s (recordTaken m s) := by
  unfold recordTaken
  split <;> constructor <;> simp

theorem recordEntersFrame_sameBut (s : State) : SameBut { feeds := true, pub := true } s (recordEntersFrame s) := by
  unfold recordEntersFrame
  repeat' split
  all_goals constructor <;> simp

theorem batchTimerExpiry_sameBut (s : State) : SameBut { pub := true } s (batchTimerExpiry s) := by
  unfold batchTimerExpiry
  split <;> constructor <;> simp

theorem markFire_sameBut (s : State) : SameBut { pub := true } s (markFire s) := by
  unfold markFire
  repeat' split
  all_goals constructor <;> simp

theorem transmitChoice_sameBut (phase : Fin 16) (upsets : List Upset) (s : State) :
    SameBut { agr := true, pool := true, pub := true, port := true, req := true } s (transmitChoice phase upsets s) := by
  unfold transmitChoice State.sendPublication
  repeat' split
  all_goals constructor <;> simp

theorem segmentTxEnd_sameBut (s : State) : SameBut { pub := true, port := true } s (segmentTxEnd s) := by
  unfold segmentTxEnd
  constructor <;> simp

theorem segmentLinkUp_sameBut (s : State) : SameBut { port := true } s (segmentLinkUp s) := by
  unfold segmentLinkUp
  constructor <;> simp

theorem segmentLinkLoss_sameBut (s : State) : SameBut { agr := true, pub := true, port := true } s (segmentLinkLoss s) := by
  unfold segmentLinkLoss
  split <;> constructor <;> simp

theorem segmentFrameReceived_sameBut (bytes : List Byte) (codeError : Bool) (s : State) :
    SameBut { port := true, req := true } s (segmentFrameReceived bytes codeError s) := by
  unfold segmentFrameReceived State.queueFrame
  dsimp only
  repeat' split
  all_goals constructor <;> simp

theorem dispatch_pending (straps : Fin 16) (s : State) : (dispatch straps s).pending = s.pending := by
  unfold dispatch State.deliver State.checkNumber State.handFrame State.requestArrives State.restartArrives State.restart
  dsimp only
  repeat' split
  all_goals simp [State.leaveService]

theorem status_sameBut (part : Option Block) (s : State) : SameBut { req := true } s (status part s) := by
  refine State.carryOut_sameBut rfl _ _ _ fun _ => ?_
  unfold State.byBlocks
  repeat' split
  all_goals constructor <;> simp

theorem feedReportRequest_sameBut (s : State) : SameBut { req := true } s (feedReportRequest s) := by
  refine State.carryOut_sameBut rfl _ _ _ fun _ => ?_
  repeat' split
  all_goals exact State.finish_sameBut rfl _ _ _

theorem clearCountsRequest_sameBut (part : Option Block) (s : State) :
    SameBut (touched (.clearCounts part)) s (clearCountsRequest part s) := by
  refine State.carryOut_sameBut rfl _ _ _ fun _ => ?_
  unfold State.byBlocks
  repeat' split
  all_goals constructor <;> simp [touched]

theorem setSecondsRequest_sameBut (s : State) : SameBut { clock := true, req := true } s (setSecondsRequest s) := by
  refine State.carryOut_sameBut rfl _ _ _ fun _ => ?_
  repeat' split
  all_goals constructor <;> simp

theorem markRequest_sameBut (s : State) : SameBut { pub := true, req := true } s (markRequest s) := by
  refine State.carryOut_sameBut rfl _ _ _ fun _ => ?_
  dsimp only
  split <;> constructor <;> simp

theorem cancelMarkRequest_sameBut (s : State) : SameBut { pub := true, req := true } s (cancelMarkRequest s) := by
  refine State.carryOut_sameBut rfl _ _ _ fun _ => ?_
  split <;> constructor <;> simp

theorem setAlertEnablesRequest_sameBut (s : State) : SameBut { req := true } s (setAlertEnablesRequest s) := by
  refine State.carryOut_sameBut rfl _ _ _ fun _ => ?_
  split <;> constructor <;> simp

theorem ackAlertsRequest_sameBut (s : State) : SameBut { req := true } s (ackAlertsRequest s) := by
  refine State.carryOut_sameBut rfl _ _ _ fun _ => ?_
  split <;> constructor <;> simp

theorem unknownRequest_sameBut (s : State) : SameBut { req := true } s (unknownRequest s) := by
  unfold unknownRequest
  repeat' split
  all_goals constructor <;> simp

theorem imageReadDone_sameBut (flash : List Byte) (s : State) :
    SameBut { loader := true, clock := true, agr := true, lines := true, feeds := true, req := true } s
      (imageReadDone flash s) := by
  unfold imageReadDone
  repeat' split
  all_goals constructor <;> simp

theorem segmentStart_sameBut (phase : Fin 16) (s : State) : SameBut { port := true } s (segmentStart phase s) := by
  unfold segmentStart
  split <;> constructor <;> simp

/-- No command changes a block that the table does not name for it, nor the commands that wait. -/
theorem effect_sameBut (c : Instr) (s : State) : SameBut (touched c) s (effect c s) := by
  cases c with
  | powerOn straps => exact sameBut_all rfl
  | linkUp i => exact lineLinkUp_sameBut i s
  | linkLoss i => exact lineLinkLoss_sameBut i s
  | settleTimerExpiry i => exact settleExpiry_sameBut i s
  | silenceTimerExpiry i => exact silenceExpiry_sameBut i s
  | startDelimiter i phase => exact startFrame_sameBut i phase s
  | frameByte i b codeError => exact frameByte_sameBut i b codeError s
  | frameEnd i => exact frameEnd_sameBut i s
  | classifyHandOff i => exact classifyHandOff_sameBut i s
  | localArrival i => exact localArrival_sameBut i s
  | gapExpiry i => exact gapExpiry_sameBut i s
  | peerRecord => exact peerRecord_sameBut s
  | pulse ago phase => exact pulse_sameBut ago phase s
  | pulseWindowExpiry => exact pulseWindowExpiry_sameBut s
  | clockStep => exact clockStep_sameBut s
  | secondsWrite => exact secondsWrite_sameBut s
  | beaconTimerExpiry => exact beaconTimerExpiry_sameBut s
  | beaconTaken => exact sameBut_all (beaconTaken_pending s)
  | silenceDeadline n => exact silenceDeadline_sameBut n s
  | roundEnd => exact roundEnd_sameBut s
  | recordTaken m => exact recordTaken_sameBut m s
  | recordEntersFrame => exact recordEntersFrame_sameBut s
  | batchTimerExpiry => exact batchTimerExpiry_sameBut s
  | markFire => exact markFire_sameBut s
  | transmitChoice phase upsets => exact transmitChoice_sameBut phase upsets s
  | segmentTxEnd => exact segmentTxEnd_sameBut s
  | segmentLinkUp => exact segmentLinkUp_sameBut s
  | segmentLinkLoss => exact segmentLinkLoss_sameBut s
  | segmentFrameReceived bytes codeError => exact segmentFrameReceived_sameBut bytes codeError s
  | dispatch straps => exact sameBut_all (dispatch_pending straps s)
  | status part => exact status_sameBut part s
  | feedReport => exact feedReportRequest_sameBut s
  | peerReport => exact State.carryOut_sameBut rfl _ _ _ fun _ => State.finish_sameBut rfl _ _ _
  | clearCounts part => exact clearCountsRequest_sameBut part s
  | setSeconds => exact setSecondsRequest_sameBut s
  | mark => exact markRequest_sameBut s
  | cancelMark => exact cancelMarkRequest_sameBut s
  | setAlertEnables => exact setAlertEnablesRequest_sameBut s
  | ackAlerts => exact ackAlertsRequest_sameBut s
  | unknownRequest => exact unknownRequest_sameBut s
  | imageReadDone flash => exact imageReadDone_sameBut flash s
  | localTick => constructor <;> simp [touched, effect, localTick]
  | segmentStartDelimiter phase => exact segmentStart_sameBut phase s

end Sys2Proof.Machine
end

section
/-! ## Leaving service, conflict and RESTART: what each leaves of every block -/

namespace Sys2Proof.Machine

set_option Elab.async false

/-! ### Leaving service (R11, R72, R73, R100, R131, R150, R157) -/

@[simp] theorem State.leaveService_loader (s : State) : s.leaveService.loader = s.loader := by simp [State.leaveService]
@[simp] theorem State.leaveService_clock (s : State) : s.leaveService.clock = s.clock := by simp [State.leaveService]
@[simp] theorem State.leaveService_agr (s : State) : s.leaveService.agr = s.agr := by simp [State.leaveService]
@[simp] theorem State.leaveService_lines (s : State) :
    s.leaveService.lines = s.lines.map (fun l => { l with frame := l.frame.map FrameRec.unmark }) := by
  simp [State.leaveService]
@[simp] theorem State.leaveService_handOffs (s : State) : s.leaveService.handOffs = [] := rfl
@[simp] theorem State.leaveService_arrivals (s : State) : s.leaveService.arrivals = [] := rfl
@[simp] theorem State.leaveService_arbiter (s : State) : s.leaveService.arbiter = s.arbiter := by simp [State.leaveService]
@[simp] theorem State.leaveService_feeds (s : State) : s.leaveService.feeds = s.feeds.map FeedSlot.cleared := by
  simp [State.leaveService]
@[simp] theorem State.leaveService_port (s : State) : s.leaveService.port = s.abandonPublication.port := rfl
@[simp] theorem State.leaveService_pub (s : State) : s.leaveService.pub = s.abandonPublication.pub.emptied := rfl
@[simp] theorem State.leaveService_pool (s : State) :
    s.leaveService.pool = s.pool.releaseAll s.abandonPublication.serviceChains := by
  simp [State.leaveService]
@[simp] theorem State.leaveService_req (s : State) : s.leaveService.req = s.req := by simp [State.leaveService]
@[simp] theorem State.leaveService_pending (s : State) : s.leaveService.pending = s.pending := by simp [State.leaveService]

/-! ### CONFLICT (R39) -/

@[simp] theorem State.enterConflict_loader (s : State) : s.enterConflict.loader = { s.loader with state := .conflict } := by
  simp [State.enterConflict]
@[simp] theorem State.enterConflict_clock (s : State) :
    s.enterConflict.clock = { s.clock with pendingSeconds := none, slew := 0 } := by
  simp [State.enterConflict, State.flushRequests]
@[simp] theorem State.enterConflict_peers (s : State) : s.enterConflict.agr.peers = [] := rfl
@[simp] theorem State.enterConflict_lines (s : State) : s.enterConflict.lines = s.flushRequests.leaveService.lines := rfl
@[simp] theorem State.enterConflict_handOffs (s : State) : s.enterConflict.handOffs = [] := rfl
@[simp] theorem State.enterConflict_arrivals (s : State) : s.enterConflict.arrivals = [] := rfl
@[simp] theorem State.enterConflict_feeds (s : State) : s.enterConflict.feeds = s.feeds.map FeedSlot.cleared := by
  simp [State.enterConflict]
@[simp] theorem State.enterConflict_pub (s : State) : s.enterConflict.pub = s.flushRequests.leaveService.pub := rfl

/-! ### RESTART (R13, R157, R168, R185, R194) -/

@[simp] theorem State.restart_clock (s : State) (straps : Nat) :
    (s.restart straps).clock = { s.clock with slew := 0, anchor := {}, past := [], pendingSeconds := none } := by
  simp [State.restart]
@[simp] theorem State.restart_agr (s : State) (straps : Nat) : (s.restart straps).agr = {} := rfl
@[simp] theorem State.restart_lines (s : State) (straps : Nat) :
    (s.restart straps).lines = s.leaveService.lines.map LineRx.restarted := rfl
@[simp] theorem State.restart_handOffs (s : State) (straps : Nat) : (s.restart straps).handOffs = [] := rfl
@[simp] theorem State.restart_arrivals (s : State) (straps : Nat) : (s.restart straps).arrivals = [] := rfl
@[simp] theorem State.restart_feeds (s : State) (straps : Nat) : (s.restart straps).feeds = [] := rfl

/-- Of the Publisher a RESTART leaves nothing (R157). -/
@[simp] theorem State.restart_pub (s : State) (straps : Nat) : (s.restart straps).pub = {} := rfl

/-- What a beacon heard can do: change the Agreement Unit and raise an alert, or put the station in CONFLICT (R37, R39). -/
theorem State.hearBeacon_cases (s : State) (b : BeaconIn) :
    SameBut { agr := true, req := true } s (s.hearBeacon b) ∨ s.hearBeacon b = s.enterConflict := by
  unfold State.hearBeacon
  dsimp only
  split
  · split
    · exact .inl (.refl _ _)
    · split
      · exact .inr rfl
      · left; unfold State.surviveConflict; constructor <;> simp
  · left
    repeat' split
    all_goals constructor <;> simp

/-- What BEACON_TAKEN can do (R37). -/
theorem beaconTaken_cases (s : State) :
    SameBut { agr := true, req := true } s (beaconTaken s) ∨
      beaconTaken s = State.enterConflict { s with agr := { s.agr with inbox := none } } := by
  have htake : SameBut { agr := true, req := true } s { s with agr := { s.agr with inbox := none } } := by
    constructor <;> simp
  unfold beaconTaken
  split
  · exact .inl (.refl _ _)
  · dsimp only
    split
    · exact (State.hearBeacon_cases _ _).imp_left htake.trans
    · exact .inl htake

/-- A RESTART at its arrival: refused in LOADING, else begun after the flush and the answer (R173). -/
theorem State.restartArrives_cases (s : State) (q : Request) (straps : Fin 16) :
    SameBut { req := true } s (s.restartArrives q straps) ∨
      s.loader.state ≠ .loading ∧ ∃ req, s.restartArrives q straps =
        State.restart { s with req := req, clock := { s.clock with pendingSeconds := none } } straps.val := by
  unfold State.restartArrives
  split
  · left; constructor <;> simp
  · exact .inr ⟨by assumption, _, rfl⟩

/-- What the delivery of the head of the receive queue can do (R165, R173). -/
theorem State.deliver_cases (s : State) (f : RxFrame) (d : Dispatched) (straps : Fin 16) :
    SameBut { agr := true, arbiter := true, port := true, req := true } s (s.deliver f d straps) ∨
      s.loader.state ≠ .loading ∧ ∃ req, s.deliver f d straps =
        State.restart { s with req := req, clock := { s.clock with pendingSeconds := none } } straps.val := by
  cases d with
  | malformed => left; constructor <;> simp [State.deliver]
  | beacon b => left; constructor <;> simp [State.deliver]
  | publication station identity number records =>
    left
    unfold State.deliver State.checkNumber State.handFrame
    dsimp only
    repeat' split
    all_goals constructor <;> simp
  | request target q =>
    have hcount (req : ReqHandler) : SameBut { agr := true, arbiter := true, port := true, req := true } s { s with req := req } := by
      constructor <;> simp
    unfold State.deliver State.requestArrives
    dsimp only
    split
    · split
      · rcases State.restartArrives_cases { s with req := _ } q straps with h | ⟨hs, req, e⟩
        · refine .inl ((hcount _).trans { h with agr := fun _ => h.agr rfl, arbiter := fun _ => h.arbiter rfl, port := fun _ => h.port rfl, req := nofun })
        · exact .inr ⟨hs, req, e⟩
      · exact .inl (hcount _)
    · left; constructor <;> simp
  | foreignReply => left; constructor <;> simp [State.deliver]
  | unknownKind => left; constructor <;> simp [State.deliver]

/-- What DISPATCH can do: hand the head to the Agreement Unit, the Sequence Arbiter or the Request Handler, or begin a RESTART
(R165, R173). -/
theorem dispatch_cases (straps : Fin 16) (s : State) :
    SameBut { agr := true, arbiter := true, port := true, req := true } s (dispatch straps s) ∨
      s.loader.state ≠ .loading ∧ ∃ port req, dispatch straps s =
        State.restart { s with port := port, req := req, clock := { s.clock with pendingSeconds := none } } straps.val := by
  unfold dispatch
  split
  · exact .inl (.refl _ _)
  next f rest _ =>
    split
    · rcases State.deliver_cases { s with port := { s.port with rxQueue := rest } } f (readFrame f.bytes) straps with
        h | ⟨hs, req, e⟩
      · exact .inl (SameBut.trans (by constructor <;> simp) h)
      · exact .inr ⟨hs, _, req, e⟩
    · exact .inl (.refl _ _)

/-- What CLEAR_COUNTS can do: one block zeroes its counters, or the request is answered or left (R177). -/
theorem clearCountsRequest_cases (part : Option Block) (s : State) :
    (∃ b, clearCountsRequest part s = (s.clearCounts b).addPart b []) ∨ SameBut { req := true } s (clearCountsRequest part s) := by
  unfold clearCountsRequest
  rcases s.carryOut_cases 4 _ with e | e | ⟨q, -, -, -, e⟩ <;> rw [e]
  · exact .inr (.refl _ _)
  · exact .inr (State.finish_sameBut rfl _ _ _)
  · rcases s.byBlocks_cases countingBlocks part _ _ with ⟨b, -, -, -, e⟩ | ⟨-, -, e⟩ | e <;> rw [e]
    · exact .inl ⟨b, rfl⟩
    · exact .inr (State.finish_sameBut rfl _ _ _)
    · exact .inr (.refl _ _)

end Sys2Proof.Machine
end

section
/-! ## The clock's values stay in range (R16, R17, R19, R20, R178) -/

namespace Sys2Proof.Machine

set_option Elab.async false

theorem clampInt_bounds {lo hi : Int} (x : Int) (h : lo ≤ hi) : lo ≤ clampInt lo hi x ∧ clampInt lo hi x ≤ hi := by
  unfold clampInt; omega

/-- A rate within ±250,000 ppb adjusts the increment by less than the nominal 4 ns (R19). -/
theorem rateAdjust_bounds {r : Int} (h : r.natAbs ≤ 250000) : (rateAdjust r).natAbs ≤ 4294967 := by
  have hq : (r.natAbs * 17179869184 * 2 + 1000000000) / 2000000000 ≤ 4294967 := by omega
  rw [rateAdjust, Int.natAbs_mul, Int.natAbs_natCast, Int.natAbs_sign]
  split <;> omega

/-- The ranges of the terms that a tick's advance reads and writes. -/
theorem Accum.advance_inRange {a : Accum} {incr : Nat} (hsec : a.sec < Config.secondsModulus)
    (hunits : a.units < Config.unitsPerSec) (hincr : incr ≤ Config.unitsPerSec) :
    (a.advance incr).sec < Config.secondsModulus ∧ (a.advance incr).units < Config.unitsPerSec := by
  unfold Accum.advance
  split
  · exact ⟨hsec, by assumption⟩
  · exact ⟨Nat.mod_lt _ (by decide), by dsimp only; omega⟩

theorem Accum.step_inRange (a : Accum) (c : Int) :
    (a.step c).sec < Config.secondsModulus ∧ (a.step c).units < Config.unitsPerSec :=
  ⟨Nat.mod_lt _ (by decide), Nat.mod_lt _ (by decide)⟩

theorem Clock.incr_le {c : Clock} (h : c.InRange) : c.incr ≤ Config.unitsPerSec := by
  obtain ⟨-, -, -, -, -, -, -, hlo, hhi, hadj, -⟩ := h
  have := rateAdjust_bounds (r := c.rate) (by omega)
  simp only [Clock.incr, hadj, Config.nominalIncrement, Config.unitsPerSec]
  omega

theorem Clock.advance_inRange {c : Clock} (h : c.InRange) : c.advance.InRange := by
  have hincr := Clock.incr_le h
  obtain ⟨-, hsec, hunits, hf, hf', hs, hs', -, -, -, hp⟩ := h
  have hrate := clampInt_bounds (lo := -250000) (hi := 250000) (c.freq + c.slew) (by decide)
  obtain ⟨hacc, hacc'⟩ := Accum.advance_inRange hsec hunits hincr
  refine ⟨Nat.mod_lt _ (by decide), hacc, hacc', hf, hf', hs, hs', hrate.1, hrate.2, rfl, ?_⟩
  cases e : c.pendingSeconds <;> simp_all [Clock.advance]

/-- What a clock's ranges read; the rest of it may change freely. -/
theorem Clock.InRange.of_eq {c d : Clock} (h : c.InRange) (htick : d.tick = c.tick) (hacc : d.acc = c.acc)
    (hfreq : d.freq = c.freq) (hslew : d.slew = c.slew ∨ d.slew = 0) (hrate : d.rate = c.rate) (hadj : d.adj = c.adj)
    (hp : d.pendingSeconds = c.pendingSeconds ∨ d.pendingSeconds = none) : d.InRange := by
  obtain ⟨h1, h2, h3, h4, h5, h6, h7, h8, h9, h10, h11⟩ := h
  refine ⟨by rwa [htick], by rwa [hacc], by rwa [hacc], by rwa [hfreq], by rwa [hfreq], ?_, ?_, by rwa [hrate],
    by rwa [hrate], by rw [hadj, hrate, h10], ?_⟩
  · rcases hslew with e | e <;> rw [e] <;> omega
  · rcases hslew with e | e <;> rw [e] <;> omega
  · rcases hp with e | e <;> rw [e]
    · exact h11
    · rfl

theorem Clock.applyStep_inRange {c : Clock} (h : c.InRange) (corr : Int) : (c.applyStep corr).InRange := by
  obtain ⟨htick, -, -, hrest⟩ := h
  exact ⟨htick, (c.acc.step_inRange corr).1, (c.acc.step_inRange corr).2, hrest⟩

theorem Clock.applySeconds_inRange {c : Clock} (h : c.InRange) {v : Nat} (hv : v < Config.secondsModulus) :
    (c.applySeconds v).InRange := by
  obtain ⟨htick, -, hunits, h4, h5, h6, h7, h8, h9, h10, -⟩ := h
  exact ⟨htick, hv, hunits, h4, h5, h6, h7, h8, h9, h10, rfl⟩

theorem Clock.steer_inRange {c : Clock} (h : c.InRange) (corr : Int) (beaconMs : Nat) (maxSlew : Int) :
    (c.steer corr beaconMs maxSlew).InRange := by
  obtain ⟨h1, h2, h3, -, -, -, -, hrest⟩ := h
  have hfreq := clampInt_bounds (lo := -200000) (hi := 200000) (c.freq + (correctionRate corr beaconMs).tdiv 8) (by decide)
  have hslew := clampInt_bounds (lo := -200000) (hi := 200000)
    (clampInt (-maxSlew) maxSlew (correctionRate corr beaconMs)) (by decide)
  exact ⟨h1, h2, h3, hfreq.1, hfreq.2, hslew.1, hslew.2, hrest⟩

theorem clockStep_inRange {s : State} (h : s.clock.InRange) : (clockStep s).clock.InRange := by
  unfold clockStep
  split
  · exact h
  · split
    · dsimp only
      split <;> simpa using Clock.applyStep_inRange h _
    · exact h

theorem secondsWrite_inRange {s : State} (h : s.clock.InRange) : (secondsWrite s).clock.InRange := by
  unfold secondsWrite
  split
  · exact h
  next p hp =>
    have hv : p.value < Config.secondsModulus := by
      obtain ⟨-, -, -, -, -, -, -, -, -, -, hpending⟩ := h
      simpa [hp] using hpending
    split
    · split
      · simpa using Clock.applySeconds_inRange h hv
      · exact h.of_eq rfl rfl rfl (.inl rfl) rfl rfl (.inr rfl)
    · exact h

theorem roundEnd_inRange {s : State} (h : s.clock.InRange) : (roundEnd s).clock.InRange := by
  have hstore : ∀ r, (s.storeRound r).clock.InRange := fun r => h.of_eq rfl rfl rfl (.inl rfl) rfl rfl (.inl rfl)
  unfold roundEnd
  split
  · dsimp only
    split
    · exact hstore s.round
    · unfold State.roundInAcquire
      split
      · exact (hstore s.round).of_eq rfl rfl rfl (.inl rfl) rfl rfl (.inl rfl)
      · simpa using hstore s.round
    · exact Clock.steer_inRange (hstore s.round) _ _ _
    all_goals exact hstore s.round
  · exact h

theorem setSecondsRequest_inRange {s : State} (h : s.clock.InRange) : (setSecondsRequest s).clock.InRange := by
  unfold setSecondsRequest
  rcases s.carryOut_cases 5 _ with e | e | ⟨q, -, -, -, e⟩ <;> rw [e]
  · exact h
  · exact h
  · split
    · exact h
    next hv =>
      split
      · exact h
      · split
        · exact h
        · obtain ⟨h1, h2, h3, h4, h5, h6, h7, h8, h9, h10, -⟩ := h
          refine ⟨h1, h2, h3, h4, h5, h6, h7, h8, h9, h10, ?_⟩
          simpa [State.handSeconds] using hv

theorem State.clearCounts_clock_inRange {s : State} (h : s.clock.InRange) (b : Block) : (s.clearCounts b).clock.InRange := by
  cases b with
  | clock => exact h.of_eq rfl rfl rfl (.inl rfl) rfl rfl (.inl rfl)
  | _ => exact h

theorem effect_keeps_clock (c : Instr) (s : State) (h : s.clock.InRange) : (effect c s).clock.InRange := by
  by_cases hc : (touched c).clock = false
  · rwa [(effect_sameBut c s).clock hc]
  cases c
  case powerOn straps =>
    show ({} : Clock).InRange
    unfold Clock.InRange
    decide
  case pulse ago phase =>
    show (pulse ago phase s).clock.InRange
    unfold pulse
    repeat' split
    all_goals exact h.of_eq rfl rfl rfl (.inl rfl) rfl rfl (.inl rfl)
  case pulseWindowExpiry =>
    show (pulseWindowExpiry s).clock.InRange
    unfold pulseWindowExpiry
    split <;> exact h.of_eq rfl rfl rfl (.inl rfl) rfl rfl (.inl rfl)
  case clockStep => exact clockStep_inRange h
  case secondsWrite => exact secondsWrite_inRange h
  case beaconTaken =>
    rcases beaconTaken_cases s with e | e
    · exact e.clock rfl ▸ h
    · show (beaconTaken s).clock.InRange
      rw [e, State.enterConflict_clock]
      exact h.of_eq rfl rfl rfl (.inr rfl) rfl rfl (.inr rfl)
  case roundEnd => exact roundEnd_inRange h
  case dispatch straps =>
    rcases dispatch_cases straps s with e | ⟨-, port, req, e⟩
    · exact e.clock rfl ▸ h
    · show (dispatch straps s).clock.InRange
      rw [e, State.restart_clock]
      exact h.of_eq rfl rfl rfl (.inr rfl) rfl rfl (.inr rfl)
  case clearCounts part =>
    show (clearCountsRequest part s).clock.InRange
    rcases clearCountsRequest_cases part s with ⟨b, e⟩ | e
    · rw [e]; exact State.clearCounts_clock_inRange h b
    · exact e.clock rfl ▸ h
  case setSeconds => exact setSecondsRequest_inRange h
  case imageReadDone flash =>
    show (imageReadDone flash s).clock.InRange
    unfold imageReadDone
    split
    · split
      · exact h
      · simp only [State.accept, Anchor.accepted]
        split <;> exact h.of_eq rfl rfl rfl (.inl rfl) rfl rfl (.inl rfl)
    · exact h
  case localTick => exact Clock.advance_inRange h
  all_goals exact absurd rfl hc

end Sys2Proof.Machine
end

section
/-! ## Every line's timers and frame belong to its state (R1 to R4, R9, R13, R14) -/

namespace Sys2Proof.Machine

set_option Elab.async false

/-- One line rewritten soundly keeps every line sound. -/
theorem State.LinesSound.set {s t : State} (h : s.LinesSound) {i : Line} {l : LineRx}
    (ht : t.lines = s.lines.set i l) (hl : l.Sound) : t.LinesSound := by
  intro j
  rw [ht, PerLine.get_set]
  split
  · exact hl
  · exact h j

/-- Every line rewritten soundly. -/
theorem State.LinesSound.map {s t : State} (h : s.LinesSound) {f : LineRx → LineRx}
    (ht : t.lines = s.lines.map f) (hf : ∀ l : LineRx, l.Sound → (f l).Sound) : t.LinesSound := by
  intro j
  rw [ht, PerLine.get_map]
  exact hf _ (h j)

/-- A line's soundness reads its state, its timers and whether it has a frame. -/
theorem LineRx.Sound.of_eq {l m : LineRx} (h : l.Sound) (hstate : m.state = l.state) (hsettle : m.settleTimer = l.settleTimer)
    (hsilence : m.silenceTimer = l.silenceTimer) (hframe : l.frame = none → m.frame = none) : m.Sound := by
  obtain ⟨h1, h2, h3⟩ := h
  exact ⟨by rwa [hsettle, hstate], by rwa [hsilence, hstate], fun hd => hframe (h3 (hstate ▸ hd))⟩

/-- A line with no frame in flight for a new one is not in DOWN: the frame of a line may be replaced when it has one. -/
theorem LineRx.Sound.setFrame {l : LineRx} (h : l.Sound) (hup : l.state ≠ .down) (f : Option FrameRec) :
    ({ l with frame := f } : LineRx).Sound :=
  ⟨h.1, h.2.1, fun hd => absurd hd hup⟩

theorem LineRx.Sound.up_of_frame {l : LineRx} (h : l.Sound) {f : FrameRec} (hf : l.frame = some f) : l.state ≠ .down :=
  fun hd => by simp [h.2.2 hd] at hf

theorem LineRx.linkUp_sound {l : LineRx} (h : l.Sound) (hd : l.state = .down) (image : Bool) (deadline : Nat) :
    (l.linkUp image deadline).Sound := by
  obtain ⟨-, hsilence, -⟩ := h
  simp only [hd, reduceCtorEq, iff_false] at hsilence
  simp [LineRx.Sound, LineRx.linkUp, hsilence]

theorem LineRx.linkLoss_sound (l : LineRx) : l.linkLoss.Sound := by simp [LineRx.Sound, LineRx.linkLoss]

theorem LineRx.heardLive_sound {l : LineRx} (h : l.Sound) (deadline : Nat) : (l.heardLive deadline).Sound := by
  obtain ⟨h1, h2, h3⟩ := h
  unfold LineRx.heardLive
  split
  case h_1 e => simp_all [LineRx.Sound]
  case h_2 e => simp_all [LineRx.Sound]
  all_goals exact ⟨h1, h2, h3⟩

theorem LineRx.endFrame_sound {l : LineRx} (h : l.Sound) (f : FrameRec) (deadline : Nat) : (l.endFrame f deadline).Sound := by
  unfold LineRx.endFrame
  extract_lets failed m n
  have hm : m.Sound := h.of_eq rfl rfl rfl fun _ => rfl
  have hn : n.Sound := by
    unfold n
    split
    · exact hm
    · exact LineRx.heardLive_sound hm deadline
  split
  · exact hm.of_eq rfl rfl rfl id
  · exact hm
  · split <;> exact hn.of_eq rfl rfl rfl id

theorem LineRx.restarted_sound {l : LineRx} (h : l.Sound) : l.restarted.Sound := by
  unfold LineRx.restarted
  split
  next hd => exact ⟨nofun, by simp, fun _ => h.2.2 hd⟩
  · simp [LineRx.Sound]

theorem LineRx.accepted_sound {l : LineRx} (h : l.Sound) (cfg : LineCfg) (now : Nat) : (l.accepted cfg now).Sound := by
  unfold LineRx.accepted
  split
  next hs => exact ⟨fun _ => hs, h.2⟩
  · exact h

theorem acceptLines_get (ls : PerLine LineRx) (cfg : PerLine LineCfg) (now : Nat) (i : Line) :
    (acceptLines ls cfg now).get i = (ls.get i).accepted (cfg.get i) now := by
  fin_cases i <;> rfl

theorem LineRx.unmark_sound {l : LineRx} (h : l.Sound) :
    ({ l with frame := l.frame.map FrameRec.unmark } : LineRx).Sound :=
  h.of_eq rfl rfl rfl (by simp)

theorem State.leaveService_linesSound {s : State} (h : s.LinesSound) : s.leaveService.LinesSound :=
  h.map s.leaveService_lines fun _ => LineRx.unmark_sound

theorem settleExpiry_linesSound (i : Line) {s : State} (h : s.LinesSound) : (settleExpiry i s).LinesSound := by
  unfold settleExpiry
  dsimp only
  split
  next hdue =>
    have hsettling : (s.lines.get i).state = .settling := by
      refine (h i).1 ?_
      cases e : (s.lines.get i).settleTimer <;> simp_all [due]
    have hsilence := (h i).2.1
    split
    · refine h.set (State.modifyLine_lines _ _ _) ?_
      simp [LineRx.Sound]
    · refine h.set rfl ?_
      simp_all [LineRx.Sound]
  · exact h

theorem silenceExpiry_linesSound (i : Line) {s : State} (h : s.LinesSound) : (silenceExpiry i s).LinesSound := by
  unfold silenceExpiry
  split
  next hdue =>
    have hlive : (s.lines.get i).state = .live := by
      refine (h i).2.1.1 ?_
      cases e : (s.lines.get i).silenceTimer <;> simp_all [due]
    have hsettle := (h i).1
    refine h.set rfl ?_
    simp_all [LineRx.Sound]
  · exact h

theorem frameByte_linesSound (i : Line) (b : Byte) (codeError : Bool) {s : State} (h : s.LinesSound) :
    (frameByte i b codeError s).LinesSound := by
  unfold frameByte
  split
  · exact h
  next f hf =>
    have hput (g : FrameRec) := (h i).setFrame ((h i).up_of_frame hf) (some g)
    dsimp only
    repeat' split
    all_goals exact h.set rfl (hput _)

theorem frameEnd_linesSound (i : Line) {s : State} (h : s.LinesSound) : (frameEnd i s).LinesSound := by
  unfold frameEnd
  dsimp only
  split
  · exact h
  · split <;> exact h.set rfl (LineRx.endFrame_sound (h i) _ _)

theorem startFrame_linesSound (i : Line) (phase : Fin 16) {s : State} (h : s.LinesSound) :
    (startFrame i phase s).LinesSound := by
  unfold startFrame
  split
  next cls hcls _ =>
    refine h.set rfl ((h i).setFrame ?_ _)
    intro hd
    simp [hd, LineState.frameClass] at hcls
  · exact h

theorem classifyHandOff_linesSound (i : Line) {s : State} (h : s.LinesSound) : (classifyHandOff i s).LinesSound := by
  unfold classifyHandOff
  split
  · exact h
  next g _ =>
    unfold State.classified
    dsimp only
    repeat' split
    case h_1 => exact h.set rfl ((h g.line).of_eq rfl rfl rfl id)
    all_goals exact h

theorem State.clearCounts_linesSound {s : State} (h : s.LinesSound) (b : Block) : (s.clearCounts b).LinesSound := by
  cases b with
  | line i => exact h.set rfl ((h i).of_eq rfl rfl rfl id)
  | _ => exact h

/-- Every command keeps every line sound. -/
theorem effect_keeps_lines (c : Instr) (s : State) (h : s.LinesSound) : (effect c s).LinesSound := by
  have of_eq {t : State} (e : t.lines = s.lines) : t.LinesSound := fun i => e ▸ h i
  by_cases hc : (touched c).lines = false
  · exact of_eq ((effect_sameBut c s).lines hc)
  cases c
  case powerOn straps =>
    intro i
    show ((PerLine.all {}).get i : LineRx).Sound
    rw [PerLine.get_all]
    simp [LineRx.Sound]
  case linkUp i =>
    show (lineLinkUp i s).LinesSound
    unfold lineLinkUp
    split
    next hd => exact h.set rfl (LineRx.linkUp_sound (h i) hd _ _)
    · exact h
  case linkLoss i =>
    show (lineLinkLoss i s).LinesSound
    unfold lineLinkLoss
    split
    · exact h
    · exact h.set rfl (LineRx.linkLoss_sound _)
  case settleTimerExpiry i => exact settleExpiry_linesSound i h
  case silenceTimerExpiry i => exact silenceExpiry_linesSound i h
  case startDelimiter i phase => exact startFrame_linesSound i phase h
  case frameByte i b codeError => exact frameByte_linesSound i b codeError h
  case frameEnd i => exact frameEnd_linesSound i h
  case classifyHandOff i => exact classifyHandOff_linesSound i h
  case beaconTaken =>
    show (beaconTaken s).LinesSound
    rcases beaconTaken_cases s with e | e
    · exact of_eq (e.lines rfl)
    · rw [e]
      exact State.leaveService_linesSound (of_eq rfl)
  case dispatch straps =>
    show (dispatch straps s).LinesSound
    rcases dispatch_cases straps s with e | ⟨-, port, req, e⟩
    · exact of_eq (e.lines rfl)
    · rw [e]
      refine (State.leaveService_linesSound ?_).map (State.restart_lines _ _) fun _ => LineRx.restarted_sound
      exact of_eq rfl
  case clearCounts part =>
    show (clearCountsRequest part s).LinesSound
    rcases clearCountsRequest_cases part s with ⟨b, e⟩ | e
    · rw [e]; exact State.clearCounts_linesSound h b
    · exact of_eq (e.lines rfl)
  case imageReadDone flash =>
    show (imageReadDone flash s).LinesSound
    unfold imageReadDone
    split
    · split
      · exact h
      · intro i
        simp only [State.accept, acceptLines_get]
        exact LineRx.accepted_sound (h i) _ _
    · exact h
  all_goals exact absurd rfl hc

end Sys2Proof.Machine
end

section
/-! ## One peer entry for each number but the station's own (R37, R40, section 3.5) -/

namespace Sys2Proof.Machine

set_option Elab.async false

/-! ### No operation on an entry changes its number -/

@[simp] theorem Peer.atBoundary_station (p : Peer) : p.atBoundary.station = p.station := rfl
@[simp] theorem Peer.dropRing_station (p : Peer) : p.dropRing.station = p.station := rfl
@[simp] theorem Peer.record_station (p : Peer) (b : BeaconIn) (n : Nat) : (p.record b n).station = p.station := rfl

/-- What the number of a beacon can do to an entry (R40 step 3). -/
theorem Peer.numberStep_cases (p : Peer) (n : Nat) :
    p.numberStep n = p.dropRing ∨ ∃ k, p.numberStep n = { p with counts := k } := by
  unfold Peer.numberStep
  dsimp only
  split
  · exact .inl rfl
  · exact .inr ⟨_, rfl⟩

@[simp] theorem Peer.numberStep_station (p : Peer) (n : Nat) : (p.numberStep n).station = p.station := by
  rcases p.numberStep_cases n with e | ⟨k, e⟩ <;> rw [e]
  rfl

@[simp] theorem Peer.sample_station (p : Peer) (lim : SampleLimits) (e : EchoEntry) (b : BeaconIn) :
    (p.sample lim e b).station = p.station := by
  unfold Peer.sample
  dsimp only
  split <;> rfl

@[simp] theorem Peer.hear_station (p : Peer) (fresh : Bool) (own : Nat) (b : BeaconIn) (n : Nat) (lim : SampleLimits) :
    (p.hear fresh own b n lim).station = p.station := by
  unfold Peer.hear
  extract_lets taken p1 k p2 p3 p4 p6
  have h1 : p1.station = p.station := by unfold p1; split <;> rfl
  have h2 : p2.station = p.station := h1
  have h3 : p3.station = p.station := by unfold p3; split <;> simp [h2]
  have h4 : p4.station = p.station := by unfold p4; split <;> simp [h3]
  have h6 : p6.station = p.station := by simp [p6, h4]
  split
  · exact h6
  · split <;> simp [h6]

/-! ### The table -/

/-- The table's soundness reads the entries' numbers and the station's own; entries may go. -/
theorem State.PeersSound.of_sublist {s t : State} (h : s.PeersSound) (hown : t.loader.station = s.loader.station)
    (hpeers : (t.agr.peers.map Peer.station).Sublist (s.agr.peers.map Peer.station)) : t.PeersSound := by
  obtain ⟨hnodup, hall⟩ := h
  refine ⟨hnodup.sublist hpeers, fun p hp => ?_⟩
  obtain ⟨q, hq, e⟩ := List.mem_map.1 (hpeers.subset (List.mem_map_of_mem hp))
  rw [hown, ← e]
  exact hall q hq

theorem State.peersSound_of_nil {s : State} (h : s.agr.peers = []) : s.PeersSound := by simp [State.PeersSound, h]

/-- Entries rewritten in place keep their numbers. -/
theorem map_station_map {f : Peer → Peer} (hf : ∀ p, (f p).station = p.station) (ps : List Peer) :
    (ps.map f).map Peer.station = ps.map Peer.station := by
  simp [Function.comp_def, hf]

theorem State.PeersSound.of_map {s t : State} (h : s.PeersSound) (hown : t.loader.station = s.loader.station)
    {f : Peer → Peer} (hf : ∀ p, (f p).station = p.station) (hpeers : t.agr.peers = s.agr.peers.map f) : t.PeersSound :=
  h.of_sublist hown (by rw [hpeers, map_station_map hf])

theorem State.PeersSound.of_eq {s t : State} (h : s.PeersSound) (hown : t.loader.station = s.loader.station)
    (hpeers : t.agr.peers = s.agr.peers) : t.PeersSound :=
  h.of_sublist hown (by rw [hpeers])

/-- An entry of a new number that is not the station's own may be added (R37). -/
theorem State.PeersSound.add {s t : State} (h : s.PeersSound) (hown : t.loader.station = s.loader.station) {p : Peer}
    (hpeers : t.agr.peers = s.agr.peers ++ [p]) (hnew : ∀ q ∈ s.agr.peers, q.station ≠ p.station) (hp : p.station ≤ 15)
    (hp' : p.station ≠ s.loader.station) : t.PeersSound := by
  obtain ⟨hnodup, hall⟩ := h
  constructor
  · rw [hpeers, List.map_append, List.nodup_append]
    refine ⟨hnodup, by simp, ?_⟩
    simpa using hnew
  · intro q hq
    rw [hown]
    rw [hpeers, List.mem_append, List.mem_singleton] at hq
    rcases hq with hq | rfl
    · exact hall q hq
    · exact ⟨hp, hp'⟩

/-! ### The commands that reach the table -/

theorem State.hearBeacon_peersSound {s : State} (h : s.PeersSound) (b : BeaconIn) : (s.hearBeacon b).PeersSound := by
  unfold State.hearBeacon
  extract_lets hear peers agr p
  split
  · split
    · exact h
    · split
      · exact State.peersSound_of_nil rfl
      · exact h.of_eq rfl rfl
  next hown =>
    split
    · refine h.of_map rfl (f := fun q => if q.station = b.beacon.station then hear false q else q) (fun q => ?_) rfl
      split <;> simp [hear]
    next hnew =>
      split
      next h15 =>
        have hp : p.station = b.beacon.station := by simp [p, hear]
        refine h.add rfl rfl (fun q hq e => hnew ?_) (hp ▸ h15) (hp ▸ hown)
        exact List.any_eq_true.2 ⟨q, hq, by simp [e, hp]⟩
      · exact h.of_eq rfl rfl

theorem beaconTaken_peersSound {s : State} (h : s.PeersSound) : (beaconTaken s).PeersSound := by
  unfold beaconTaken
  split
  · exact h
  · dsimp only
    split
    · refine State.hearBeacon_peersSound ?_ _
      exact h.of_eq rfl rfl
    · exact h.of_eq rfl rfl

theorem silenceDeadline_peersSound (n : Fin 16) {s : State} (h : s.PeersSound) : (silenceDeadline n s).PeersSound := by
  unfold silenceDeadline
  split
  · exact h
  · split
    · split
      · exact h.of_sublist rfl (List.filter_sublist.map _)
      · refine h.of_map rfl (f := fun q => if q.station = n.val then _ else q) (fun q => ?_) rfl
        split <;> rfl
    · exact h

theorem roundEnd_peersSound {s : State} (h : s.PeersSound) : (roundEnd s).PeersSound := by
  unfold roundEnd
  split
  · dsimp only
    split
    · unfold State.roundInListen
      dsimp only
      split <;> exact h.of_eq rfl rfl
    · unfold State.roundInAcquire
      split <;> exact h.of_eq rfl rfl
    all_goals exact h.of_eq rfl rfl
  · exact h

theorem clockStep_peersSound {s : State} (h : s.PeersSound) : (clockStep s).PeersSound := by
  unfold clockStep
  split
  · exact h
  · split
    · dsimp only
      split <;> exact h.of_map rfl Peer.atBoundary_station rfl
    · exact h

theorem secondsWrite_peersSound {s : State} (h : s.PeersSound) : (secondsWrite s).PeersSound := by
  unfold secondsWrite
  split
  · exact h
  · split
    · split
      · exact h.of_map rfl Peer.atBoundary_station rfl
      · exact h.of_eq rfl rfl
    · exact h

theorem State.clearCounts_peersSound {s : State} (h : s.PeersSound) (b : Block) : (s.clearCounts b).PeersSound := by
  cases b with
  | agreement => exact h.of_map rfl (f := fun p => { p with counts := p.counts.clearBeacons }) (fun _ => rfl) rfl
  | port => exact h.of_map rfl (f := fun p => { p with counts := p.counts.clearFrames }) (fun _ => rfl) rfl
  | _ => exact h

theorem State.checkNumber_peersSound {s : State} (h : s.PeersSound) (station : Nat) (identity : Identity) (n : Nat) :
    (s.checkNumber station identity n).PeersSound := by
  unfold State.checkNumber
  split
  · refine h.of_map rfl (f := fun p => if p.isOf station identity then p.checkNumber n else p) (fun p => ?_) rfl
    split <;> rfl
  · exact h.of_eq rfl rfl

theorem State.requestArrives_peersSound {s : State} (h : s.PeersSound) (q : Request) (straps : Fin 16) :
    (s.requestArrives q straps).PeersSound := by
  unfold State.requestArrives State.restartArrives
  dsimp only
  repeat' split
  case isTrue.isFalse => exact State.peersSound_of_nil rfl
  all_goals exact h.of_eq rfl rfl

theorem State.deliver_peersSound {s : State} (h : s.PeersSound) (f : RxFrame) (d : Dispatched) (straps : Fin 16) :
    (s.deliver f d straps).PeersSound := by
  cases d with
  | publication station identity number records =>
    unfold State.deliver State.handFrame
    dsimp only
    have hk := State.checkNumber_peersSound h station identity number
    split
    · exact hk
    · exact hk.of_eq rfl rfl
  | request target q =>
    unfold State.deliver
    dsimp only
    split
    · exact State.requestArrives_peersSound h q straps
    · exact h.of_eq rfl rfl
  | _ => exact h.of_eq rfl rfl

theorem dispatch_peersSound (straps : Fin 16) {s : State} (h : s.PeersSound) : (dispatch straps s).PeersSound := by
  unfold dispatch
  split
  · exact h
  · split
    · refine State.deliver_peersSound ?_ _ _ _
      exact h.of_eq rfl rfl
    · exact h

/-- Every command keeps the peer table sound. -/
theorem effect_keeps_peers (c : Instr) (s : State) (h : s.PeersSound) : (effect c s).PeersSound := by
  by_cases hc : (touched c).agr = false ∧ (touched c).loader = false
  · exact h.of_eq (by rw [(effect_sameBut c s).loader hc.2]) (by rw [(effect_sameBut c s).agr hc.1])
  cases c
  case powerOn straps => exact State.peersSound_of_nil rfl
  case clockStep => exact clockStep_peersSound h
  case secondsWrite => exact secondsWrite_peersSound h
  case beaconTimerExpiry =>
    show (beaconTimerExpiry s).PeersSound
    unfold beaconTimerExpiry Agreement.makeDue
    split
    · split <;> exact h.of_eq rfl rfl
    · exact h
  case beaconTaken => exact beaconTaken_peersSound h
  case silenceDeadline n => exact silenceDeadline_peersSound n h
  case roundEnd => exact roundEnd_peersSound h
  case transmitChoice phase upsets =>
    show (transmitChoice phase upsets s).PeersSound
    unfold transmitChoice
    repeat' split
    case isTrue.isTrue => exact h.of_eq rfl rfl
    all_goals exact h.of_eq (by simp [State.sendPublication]) (by simp [State.sendPublication])
  case segmentLinkLoss =>
    show (segmentLinkLoss s).PeersSound
    unfold segmentLinkLoss Agreement.skipDue
    dsimp only
    repeat' split
    all_goals exact h.of_eq (by simp) (by simp)
  case dispatch straps => exact dispatch_peersSound straps h
  case clearCounts part =>
    show (clearCountsRequest part s).PeersSound
    rcases clearCountsRequest_cases part s with ⟨b, e⟩ | e
    · rw [e]; exact (State.clearCounts_peersSound h b).of_eq rfl rfl
    · exact h.of_eq (by rw [e.loader rfl]) (by rw [e.agr rfl])
  case imageReadDone flash =>
    show (imageReadDone flash s).PeersSound
    unfold imageReadDone State.accept Agreement.accepted Agreement.makeDue
    repeat' split
    all_goals exact h.of_eq rfl rfl
  all_goals exact absurd ⟨rfl, rfl⟩ hc

end Sys2Proof.Machine
end

section
/-! ## The three invariants together -/

namespace Sys2Proof.Machine

/-- Settles O53: each invariant is kept by every command, and none looks at the commands that wait. -/
theorem clockLinesPeersKept : Obligations.ClockLinesPeersKept := by
  intro s t hstep
  exact ⟨step_keeps (P := fun s => s.clock.InRange) (fun _ _ h => h) effect_keeps_clock hstep,
    step_keeps (P := State.LinesSound) (fun _ _ h => h) effect_keeps_lines hstep,
    step_keeps (P := State.PeersSound) (fun _ _ h => h) effect_keeps_peers hstep⟩

end Sys2Proof.Machine
end

section
/-! ## Outside SERVING the station holds nothing of service (R9, R11, R72, R100, R141, R147, R148, R157) -/

namespace Sys2Proof.Machine

set_option Elab.async false

/-! ### What the invariant says, block by block -/

/-- A Publisher that holds nothing of service. -/
structure Publisher.Idle (p : Publisher) : Prop where
  queue : p.queue = []
  asm : p.asm = []
  ready : p.ready = none
  mark : p.mark = none
  state : p.state = .normal
  drop : p.drop = 0
  fromClassifier : p.fromClassifier = []
  fromArbiter : p.fromArbiter = []
  fromMarks : p.fromMarks = []

/-- A feed slot with nothing of service: table and shed counts as at the acceptance. -/
def FeedSlot.Idle (f : FeedSlot) : Prop := f.table = {} ∧ f.shed = {}

/-- A station that holds nothing of service. -/
structure State.OutOfService (s : State) : Prop where
  handOffs : s.handOffs = []
  arrivals : s.arrivals = []
  pub : s.pub.Idle
  feeds : ∀ f ∈ s.feeds, f.Idle
  lines : ∀ i : Line, (s.lines.get i).unmarked

/-- The assembly state goes by the frame's contents, the batch timer and the ready slot (R147, R148). -/
structure Publisher.AsmSound (p : Publisher) : Prop where
  empty : p.asmState = .empty ↔ p.asm = []
  timer : p.batchTimer.isSome = true ↔ p.asmState = .filling
  complete : p.asmState = .complete → p.ready ≠ none

theorem State.serviceSound_iff (s : State) :
    s.ServiceSound ↔ (s.loader.state ≠ .serving → s.OutOfService) ∧ s.pub.AsmSound := by
  constructor
  · rintro ⟨hidle, h1, h2, h3⟩
    refine ⟨fun hs => ?_, h1, h2, h3⟩
    obtain ⟨a1, a2, a3, a4, a5, a6, a7, a8, a9, a10, a11, a12, a13⟩ := hidle hs
    exact ⟨a1, a2, ⟨a3, a4, a5, a6, a7, a8, a9, a10, a11⟩, a12, a13⟩
  · rintro ⟨hidle, h1, h2, h3⟩
    refine ⟨fun hs => ?_, h1, h2, h3⟩
    obtain ⟨a1, a2, ⟨a3, a4, a5, a6, a7, a8, a9, a10, a11⟩, a12, a13⟩ := hidle hs
    exact ⟨a1, a2, a3, a4, a5, a6, a7, a8, a9, a10, a11, a12, a13⟩

/-! ### The assembly state -/

/-- The assembly state's soundness reads four fields of the Publisher. -/
theorem Publisher.AsmSound.of_eq {p q : Publisher} (h : p.AsmSound) (hstate : q.asmState = p.asmState) (hasm : q.asm = p.asm)
    (htimer : q.batchTimer = p.batchTimer) (hready : q.ready = p.ready) : q.AsmSound :=
  ⟨by rw [hstate, hasm]; exact h.empty, by rw [hstate, htimer]; exact h.timer, by rw [hstate, hready]; exact h.complete⟩

/-- An empty frame is sound whatever stands in the ready slot. -/
theorem Publisher.asmSound_of_empty {p : Publisher} (hstate : p.asmState = .empty) (hasm : p.asm = [])
    (htimer : p.batchTimer = none) : p.AsmSound := by
  constructor <;> simp [hstate, hasm, htimer]

theorem State.closeFrame_asmSound (s : State) : s.closeFrame.pub.AsmSound := Publisher.asmSound_of_empty rfl rfl rfl

/-- A FILLING frame that meets a closing condition closes, or is COMPLETE behind an occupied slot (R148). -/
theorem State.closingCondition_asmSound {s : State} (h : s.pub.AsmSound) (hfilling : s.pub.asmState = .filling) :
    s.closingCondition.pub.AsmSound := by
  rcases s.closingCondition_cases with ⟨-, e⟩ | ⟨hready, e⟩ <;> rw [e]
  · exact s.closeFrame_asmSound
  · have hasm : s.pub.asm ≠ [] := fun ha => by simpa [hfilling] using h.empty.2 ha
    constructor <;> simp [hasm, hready]

theorem Publisher.full_filling {p : Publisher} (h : p.full = true) : p.asmState = .filling := by
  simp only [Publisher.full, Bool.and_eq_true, decide_eq_true_eq] at h
  exact h.1

theorem State.checkFull_asmSound {s : State} (h : s.pub.AsmSound) : s.checkFull.pub.AsmSound := by
  unfold State.checkFull
  split
  next hfull => exact State.closingCondition_asmSound h (Publisher.full_filling hfull)
  · exact h

theorem State.checkShedding_asmSound {s : State} (h : s.pub.AsmSound) : s.checkShedding.pub.AsmSound := by
  unfold State.checkShedding
  split
  · exact h.of_eq rfl rfl rfl rfl
  · exact h

theorem State.checkNormal_asmSound {s : State} (h : s.pub.AsmSound) : s.checkNormal.pub.AsmSound := by
  unfold State.checkNormal
  split
  · exact h.of_eq rfl rfl rfl rfl
  · exact h

theorem State.enqueueRecord_asmSound {s : State} (h : s.pub.AsmSound) (r : Record) : (s.enqueueRecord r).pub.AsmSound :=
  State.checkFull_asmSound (State.checkShedding_asmSound (h.of_eq rfl rfl rfl rfl))

theorem State.queueRecord_asmSound {s : State} (h : s.pub.AsmSound) (r : Record) : (s.queueRecord r).pub.AsmSound := by
  unfold State.queueRecord
  split
  · exact h.of_eq rfl rfl rfl rfl
  · split
    · refine State.enqueueRecord_asmSound ?_ _
      exact h.of_eq rfl rfl rfl rfl
    · exact State.enqueueRecord_asmSound h r

theorem State.publish_asmSound {s : State} (h : s.pub.AsmSound) (r : Record) : (s.publish r).pub.AsmSound := by
  unfold State.publish
  split
  · exact h
  · split
    · split
      · exact h.of_eq rfl rfl rfl rfl
      · exact State.queueRecord_asmSound h r
    · exact State.queueRecord_asmSound h r

theorem Publisher.setWaiting_asmSound {p : Publisher} (h : p.AsmSound) (m : Maker) (rs : List Record) :
    (p.setWaiting m rs).AsmSound := by
  cases m <;> exact h.of_eq rfl rfl rfl rfl

theorem recordTaken_asmSound (m : Maker) {s : State} (h : s.pub.AsmSound) : (recordTaken m s).pub.AsmSound := by
  unfold recordTaken
  split
  · exact h
  · exact State.publish_asmSound (Publisher.setWaiting_asmSound h m _) _

/-- A record that enters a frame that is not COMPLETE leaves it FILLING, with its batch timer running (R147). -/
theorem Publisher.enter_asmSound {p : Publisher} (h : p.AsmSound) (hc : p.asmState ≠ .complete) (r : Record)
    (rest : List Record) (deadline : Nat) : (p.enter r rest deadline).AsmSound := by
  have htimer : (p.enter r rest deadline).batchTimer.isSome = true := by
    simp only [Publisher.enter]
    split
    · rfl
    next hne =>
      refine h.timer.2 ?_
      cases e : p.asmState <;> simp_all
  constructor
  · simp [Publisher.enter]
  · simpa [Publisher.enter] using htimer
  · simp [Publisher.enter]

theorem recordEntersFrame_asmSound {s : State} (h : s.pub.AsmSound) : (recordEntersFrame s).pub.AsmSound := by
  unfold recordEntersFrame
  split
  · exact h
  · split
    next hfits => exact State.checkFull_asmSound (State.checkNormal_asmSound (Publisher.enter_asmSound h hfits.1 _ _ _))
    · exact h

theorem batchTimerExpiry_asmSound {s : State} (h : s.pub.AsmSound) : (batchTimerExpiry s).pub.AsmSound := by
  unfold batchTimerExpiry
  split
  next hdue => exact State.closingCondition_asmSound h hdue.1
  · exact h

theorem State.endTx_asmSound {s : State} (h : s.pub.AsmSound) (e : TxEnding) : (s.endTx e).pub.AsmSound := by
  unfold State.endTx
  split
  · exact h
  · exact h.of_eq rfl rfl rfl rfl

/-- The ready frame leaves, and a COMPLETE frame takes its slot (R150). -/
theorem State.sendPublication_asmSound {s : State} (h : s.pub.AsmSound) (f : ReadyFrame) (upsets : List Upset) :
    (s.sendPublication f upsets).pub.AsmSound := by
  unfold State.sendPublication State.refillSlot
  dsimp only
  split
  · exact State.closeFrame_asmSound _
  next hc => exact ⟨h.empty, h.timer, fun e => absurd e hc⟩

theorem transmitChoice_asmSound (phase : Fin 16) (upsets : List Upset) {s : State} (h : s.pub.AsmSound) :
    (transmitChoice phase upsets s).pub.AsmSound := by
  unfold transmitChoice
  split
  · split
    · exact h
    · split
      · exact h
      · split
        · exact h
        · exact State.sendPublication_asmSound h _ _
        · exact h
  · exact h

/-- An emptied Publisher has an empty frame. -/
theorem Publisher.emptied_asmSound (p : Publisher) : p.emptied.AsmSound := Publisher.asmSound_of_empty rfl rfl rfl

theorem Publisher.takeMark_asmSound {p : Publisher} (h : p.AsmSound) (m : ArmedMark) (reading : CageTime) :
    (p.takeMark m reading).pub.AsmSound := by
  unfold Publisher.takeMark
  split <;> exact h.of_eq rfl rfl rfl rfl

theorem markRequest_asmSound {s : State} (h : s.pub.AsmSound) : (markRequest s).pub.AsmSound := by
  unfold markRequest
  rcases s.carryOut_cases 6 _ with e | e | ⟨q, -, -, -, e⟩ <;> rw [e]
  · exact h
  · exact h
  · split
    · exact Publisher.takeMark_asmSound h _ _
    · exact h

theorem cancelMarkRequest_asmSound {s : State} (h : s.pub.AsmSound) : (cancelMarkRequest s).pub.AsmSound := by
  unfold cancelMarkRequest
  rcases s.carryOut_cases 7 _ with e | e | ⟨q, -, -, -, e⟩ <;> rw [e]
  · exact h
  · exact h
  · split
    · exact h.of_eq rfl rfl rfl rfl
    · exact h

/-- Records handed over do not reach the frame under assembly. -/
theorem classifyHandOff_asmSound (i : Line) {s : State} (h : s.pub.AsmSound) : (classifyHandOff i s).pub.AsmSound := by
  unfold classifyHandOff State.classified
  dsimp only
  repeat' split
  all_goals exact h.of_eq rfl rfl rfl rfl

theorem localArrival_asmSound (i : Line) {s : State} (h : s.pub.AsmSound) : (localArrival i s).pub.AsmSound := by
  unfold localArrival
  dsimp only
  repeat' split
  all_goals exact h.of_eq rfl rfl rfl rfl

theorem gapExpiry_asmSound (i : Fin 32) {s : State} (h : s.pub.AsmSound) : (gapExpiry i s).pub.AsmSound := by
  unfold gapExpiry
  dsimp only
  repeat' split
  all_goals exact h.of_eq rfl rfl rfl rfl

theorem State.takeRecord_asmSound {s : State} (h : s.pub.AsmSound) (r : List Byte) (q : Nat) :
    (s.takeRecord r q).pub.AsmSound := by
  unfold State.takeRecord State.recordAtTable
  dsimp only
  repeat' split
  all_goals exact h.of_eq rfl rfl rfl rfl

theorem peerRecord_asmSound {s : State} (h : s.pub.AsmSound) : (peerRecord s).pub.AsmSound := by
  unfold peerRecord
  split
  · exact h
  · split
    · exact h
    · split
      · exact h
      · refine State.takeRecord_asmSound ?_ _ _
        exact h

theorem markFire_asmSound {s : State} (h : s.pub.AsmSound) : (markFire s).pub.AsmSound := by
  unfold markFire
  repeat' split
  all_goals exact h.of_eq rfl rfl rfl rfl

/-- Every command keeps the assembly state sound. -/
theorem effect_keeps_asm (c : Instr) (s : State) (h : s.pub.AsmSound) : (effect c s).pub.AsmSound := by
  by_cases hc : (touched c).pub = false
  · rwa [(effect_sameBut c s).pub hc]
  cases c
  case powerOn straps => exact Publisher.asmSound_of_empty rfl rfl rfl
  case classifyHandOff i => exact classifyHandOff_asmSound i h
  case localArrival i => exact localArrival_asmSound i h
  case gapExpiry i => exact gapExpiry_asmSound i h
  case peerRecord => exact peerRecord_asmSound h
  case beaconTaken =>
    show (beaconTaken s).pub.AsmSound
    rcases beaconTaken_cases s with e | e
    · rwa [e.pub rfl]
    · rw [e]; exact Publisher.emptied_asmSound _
  case recordTaken m => exact recordTaken_asmSound m h
  case recordEntersFrame => exact recordEntersFrame_asmSound h
  case batchTimerExpiry => exact batchTimerExpiry_asmSound h
  case markFire => exact markFire_asmSound h
  case transmitChoice phase upsets => exact transmitChoice_asmSound phase upsets h
  case segmentTxEnd => exact State.endTx_asmSound h _
  case segmentLinkLoss =>
    show (segmentLinkLoss s).pub.AsmSound
    unfold segmentLinkLoss
    split
    · exact State.endTx_asmSound h _
    · exact h
  case dispatch straps =>
    show (dispatch straps s).pub.AsmSound
    rcases dispatch_cases straps s with e | ⟨-, port, req, e⟩
    · rwa [e.pub rfl]
    · rw [e]; exact Publisher.asmSound_of_empty rfl rfl rfl
  case clearCounts part =>
    show (clearCountsRequest part s).pub.AsmSound
    rcases clearCountsRequest_cases part s with ⟨b, e⟩ | e
    · rw [e]
      cases b with
      | publisher => exact h.of_eq rfl rfl rfl rfl
      | _ => exact h
    · rwa [e.pub rfl]
  case mark => exact markRequest_asmSound h
  case cancelMark => exact cancelMarkRequest_asmSound h
  all_goals exact absurd rfl hc

/-! ### Nothing of service -/

/-- A line is unmarked when a live frame in flight on it has no service mark. -/
theorem LineRx.unmarked_iff (l : LineRx) : l.unmarked ↔ ∀ f, l.frame = some f → f.cls = .live → f.mark = false := by
  unfold LineRx.unmarked
  split
  next f hf => simp [hf]
  next hf => simp [hf]

theorem LineRx.unmarked.of_eq {l m : LineRx} (h : l.unmarked) (e : m.frame = l.frame) : m.unmarked := by
  rw [LineRx.unmarked_iff] at h ⊢
  rwa [e]

theorem LineRx.unmarked_of_none {l : LineRx} (e : l.frame = none) : l.unmarked := by simp [LineRx.unmarked_iff, e]

theorem FrameRec.unmark_unmarked (f : FrameRec) (h : f.unmark.cls = .live) : f.unmark.mark = false := by
  unfold FrameRec.unmark at h ⊢
  split <;> simp_all

/-- After the station leaves service no live frame keeps its mark (R11). -/
theorem State.leaveService_unmarked (s : State) (i : Line) : (s.leaveService.lines.get i).unmarked := by
  rw [State.leaveService_lines, PerLine.get_map, LineRx.unmarked_iff]
  intro f hf
  obtain ⟨g, -, rfl⟩ := Option.map_eq_some_iff.1 hf
  exact g.unmark_unmarked

theorem Publisher.emptied_idle (p : Publisher) : p.emptied.Idle := ⟨rfl, rfl, rfl, rfl, rfl, rfl, rfl, rfl, rfl⟩

theorem FeedSlot.cleared_idle (feeds : List FeedSlot) : ∀ f ∈ feeds.map FeedSlot.cleared, f.Idle := by
  intro f hf
  obtain ⟨g, -, rfl⟩ := List.mem_map.1 hf
  exact ⟨rfl, rfl⟩

theorem State.leaveService_outOfService (s : State) : s.leaveService.OutOfService where
  handOffs := rfl
  arrivals := rfl
  pub := Publisher.emptied_idle _
  feeds := by rw [State.leaveService_feeds]; exact FeedSlot.cleared_idle _
  lines := s.leaveService_unmarked

/-- Of the Publisher, what an idle one keeps idle: its counters and its frame number may change. -/
theorem Publisher.Idle.count {p : Publisher} (h : p.Idle) (counts : PubCounts) : ({ p with counts := counts } : Publisher).Idle :=
  { h with }

theorem State.OutOfService.of_eq {s t : State} (h : s.OutOfService) (hhand : t.handOffs = s.handOffs)
    (harr : t.arrivals = s.arrivals) (hpub : t.pub = s.pub) (hfeeds : t.feeds = s.feeds) (hlines : t.lines = s.lines) :
    t.OutOfService :=
  ⟨hhand ▸ h.handOffs, harr ▸ h.arrivals, hpub ▸ h.pub, hfeeds ▸ h.feeds, hlines ▸ h.lines⟩

theorem State.OutOfService.of_same {s t : State} (h : s.OutOfService) (e : t = s) : t.OutOfService := e ▸ h

/-- One line rewritten without a mark. -/
theorem State.OutOfService.setLine {s t : State} (h : s.OutOfService) {i : Line} {l : LineRx} (hhand : t.handOffs = s.handOffs)
    (harr : t.arrivals = s.arrivals) (hpub : t.pub = s.pub) (hfeeds : t.feeds = s.feeds)
    (hlines : t.lines = s.lines.set i l) (hl : l.unmarked) : t.OutOfService := by
  refine ⟨hhand ▸ h.handOffs, harr ▸ h.arrivals, hpub ▸ h.pub, hfeeds ▸ h.feeds, fun j => ?_⟩
  rw [hlines, PerLine.get_set]
  split
  · exact hl
  · exact h.lines j

/-! ### The commands, on a station that holds nothing of service -/

theorem lineLinkUp_outOfService (i : Line) {s : State} (h : s.OutOfService) : (lineLinkUp i s).OutOfService := by
  unfold lineLinkUp
  split
  · exact h.setLine rfl rfl rfl rfl rfl ((h.lines i).of_eq rfl)
  · exact h

theorem lineLinkLoss_outOfService (i : Line) {s : State} (h : s.OutOfService) : (lineLinkLoss i s).OutOfService := by
  unfold lineLinkLoss
  split
  · exact h
  · exact h.setLine rfl rfl rfl rfl rfl (LineRx.unmarked_of_none rfl)

theorem settleExpiry_outOfService (i : Line) {s : State} (h : s.OutOfService) : (settleExpiry i s).OutOfService := by
  unfold settleExpiry
  dsimp only
  repeat' split
  · exact h.setLine rfl rfl rfl rfl rfl ((h.lines i).of_eq rfl)
  · exact h.setLine rfl rfl rfl rfl rfl ((h.lines i).of_eq rfl)
  · exact h

theorem silenceExpiry_outOfService (i : Line) {s : State} (h : s.OutOfService) : (silenceExpiry i s).OutOfService := by
  unfold silenceExpiry
  split
  · exact h.setLine rfl rfl rfl rfl rfl ((h.lines i).of_eq rfl)
  · exact h

/-- Outside SERVING a frame opens without a mark (R6). -/
theorem startFrame_outOfService (i : Line) (phase : Fin 16) {s : State} (hs : s.loader.state ≠ .serving) (h : s.OutOfService) :
    (startFrame i phase s).OutOfService := by
  unfold startFrame
  split
  · refine h.setLine rfl rfl rfl rfl rfl ?_
    simp [LineRx.unmarked_iff, openFrame, hs]
  · exact h

theorem frameByte_outOfService (i : Line) (b : Byte) (codeError : Bool) {s : State} (h : s.OutOfService) :
    (frameByte i b codeError s).OutOfService := by
  have hi := h.lines i
  unfold frameByte
  split
  · exact h
  next f hf =>
    rw [LineRx.unmarked_iff] at hi
    have hput (g : FrameRec) (hcls : g.cls = f.cls) (hmark : g.mark = f.mark) :
        ({ s.lines.get i with frame := some g } : LineRx).unmarked := by
      have := hi f hf
      simp_all [LineRx.unmarked_iff]
    dsimp only
    repeat' split
    all_goals exact h.setLine rfl rfl rfl rfl rfl (hput _ rfl rfl)

@[simp] theorem LineRx.heardLive_frame (l : LineRx) (deadline : Nat) : (l.heardLive deadline).frame = l.frame := by
  unfold LineRx.heardLive
  split <;> rfl

/-- A frame that ends leaves its line without one. -/
@[simp] theorem LineRx.endFrame_frame (l : LineRx) (f : FrameRec) (deadline : Nat) : (l.endFrame f deadline).frame = none := by
  unfold LineRx.endFrame
  dsimp only
  repeat' split
  all_goals simp

/-- Outside SERVING no frame is handed to the Feed Classifier (R9). -/
theorem frameEnd_outOfService (i : Line) {s : State} (h : s.OutOfService) : (frameEnd i s).OutOfService := by
  unfold frameEnd
  split
  · exact h
  next f hf =>
    have hunmarked := (LineRx.unmarked_iff _).1 (h.lines i) f hf
    rw [if_neg (by simp_all)]
    exact h.setLine rfl rfl rfl rfl rfl (LineRx.unmarked_of_none (LineRx.endFrame_frame _ _ _))

theorem classifyHandOff_of_outOfService (i : Line) {s : State} (h : s.OutOfService) : classifyHandOff i s = s := by
  simp [classifyHandOff, h.handOffs]

theorem localArrival_of_outOfService (i : Line) {s : State} (h : s.OutOfService) : localArrival i s = s := by
  simp [localArrival, h.arrivals]

theorem gapExpiry_of_outOfService (i : Fin 32) {s : State} (h : s.OutOfService) : gapExpiry i s = s := by
  unfold gapExpiry
  split
  · rfl
  next f hf =>
    have hgaps : f.table.gaps = [] := by rw [(h.feeds f (List.mem_of_getElem? hf)).1]
    simp [hgaps, earliestDeadline]

/-- Outside SERVING the arbiter counts a peer's record out of service (R103). -/
theorem State.takeRecord_of_not_serving {s : State} (hs : s.loader.state ≠ .serving) (r : List Byte) (q : Nat) :
    s.takeRecord r q = { s with arbiter := { s.arbiter with outOfService := bump s.arbiter.outOfService } } := by
  simp [State.takeRecord, State.recordFate, hs]

theorem State.takeRecord_outOfService {s : State} (hs : s.loader.state ≠ .serving) (h : s.OutOfService) (r : List Byte)
    (q : Nat) : (s.takeRecord r q).OutOfService := by
  rw [State.takeRecord_of_not_serving hs]
  exact h.of_eq rfl rfl rfl rfl rfl

theorem peerRecord_outOfService {s : State} (hs : s.loader.state ≠ .serving) (h : s.OutOfService) :
    (peerRecord s).OutOfService := by
  unfold peerRecord
  split
  · exact h
  · split
    · exact h.of_eq rfl rfl rfl rfl rfl
    · split
      · exact h.of_eq rfl rfl rfl rfl rfl
      · refine State.takeRecord_outOfService (by exact hs) ?_ _ _
        exact h.of_eq rfl rfl rfl rfl rfl

theorem recordTaken_of_outOfService (m : Maker) {s : State} (h : s.OutOfService) : recordTaken m s = s := by
  have hwait : s.pub.waiting m = [] := by
    cases m with
    | classifier => exact h.pub.fromClassifier
    | arbiter => exact h.pub.fromArbiter
    | marks => exact h.pub.fromMarks
  simp [recordTaken, hwait]

theorem recordEntersFrame_of_outOfService {s : State} (h : s.OutOfService) : recordEntersFrame s = s := by
  simp [recordEntersFrame, h.pub.queue]

theorem batchTimerExpiry_of_outOfService {s : State} (hasm : s.pub.AsmSound) (h : s.OutOfService) : batchTimerExpiry s = s := by
  have hempty : s.pub.asmState = .empty := hasm.empty.2 h.pub.asm
  simp [batchTimerExpiry, hempty]

theorem markFire_of_outOfService {s : State} (h : s.OutOfService) : markFire s = s := by
  simp [markFire, h.pub.mark]

/-- With no ready frame no publication leaves (R150). -/
theorem transmitChoice_outOfService (phase : Fin 16) (upsets : List Upset) {s : State} (h : s.OutOfService) :
    (transmitChoice phase upsets s).OutOfService := by
  unfold transmitChoice
  rw [h.pub.ready]
  split
  · split
    · exact h.of_eq rfl rfl rfl rfl rfl
    · split
      · exact h.of_eq rfl rfl rfl rfl rfl
      · split
        · exact h.of_eq rfl rfl rfl rfl rfl
        next e => cases e
        · exact h
  · exact h

theorem State.endTx_outOfService {s : State} (h : s.OutOfService) (e : TxEnding) : (s.endTx e).OutOfService := by
  unfold State.endTx
  split
  · exact h
  · exact ⟨h.handOffs, h.arrivals, h.pub.count _, h.feeds, h.lines⟩

/-- The state permits no MARK and no CANCEL_MARK outside SERVING (R171). -/
theorem not_permitted_mark {st : StationState} (hs : st ≠ .serving) : permitted st 6 = false ∧ permitted st 7 = false := by
  cases st <;> simp_all [permitted]

theorem State.clearCounts_outOfService {s : State} (h : s.OutOfService) (b : Block) : (s.clearCounts b).OutOfService := by
  have hmap (f : FeedSlot → FeedSlot) (hf : ∀ x : FeedSlot, x.Idle → (f x).Idle) : ∀ x ∈ s.feeds.map f, x.Idle := by
    intro x hx
    obtain ⟨y, hy, rfl⟩ := List.mem_map.1 hx
    exact hf y (h.feeds y hy)
  cases b with
  | line i => exact h.setLine rfl rfl rfl rfl rfl ((h.lines i).of_eq rfl)
  | classifier => exact { h with feeds := hmap _ fun x hx => hx }
  | arbiter =>
    refine { h with feeds := hmap _ fun x hx => ⟨?_, hx.2⟩ }
    simp [FeedSlot.clearTable, hx.1]
  | publisher => exact { h with pub := h.pub.count _ }
  | _ => exact h.of_eq rfl rfl rfl rfl rfl

/-- The acceptance of an image opens no table and marks no frame (R190). -/
theorem imageReadDone_outOfService (flash : List Byte) {s : State} (h : s.OutOfService) : (imageReadDone flash s).OutOfService := by
  unfold imageReadDone
  split
  · split
    · exact h.of_eq rfl rfl rfl rfl rfl
    · refine { h with feeds := fun f hf => ?_, lines := fun i => ?_ }
      · obtain ⟨g, -, rfl⟩ := List.mem_map.1 hf
        exact ⟨rfl, rfl⟩
      · simp only [State.accept, acceptLines_get, LineRx.accepted]
        split <;> exact (h.lines i).of_eq rfl
  · exact h

theorem State.enterConflict_outOfService (s : State) : s.enterConflict.OutOfService :=
  s.flushRequests.leaveService_outOfService.of_eq rfl rfl rfl rfl rfl

theorem State.restart_outOfService (s : State) (straps : Nat) : (s.restart straps).OutOfService where
  handOffs := rfl
  arrivals := rfl
  pub := ⟨rfl, rfl, rfl, rfl, rfl, rfl, rfl, rfl, rfl⟩
  feeds := by simp
  lines i := by
    have hi := s.leaveService_unmarked i
    rw [State.restart_lines, PerLine.get_map]
    unfold LineRx.restarted
    split <;> exact hi.of_eq rfl

theorem powerOn_outOfService (straps : Fin 16) (s : State) : (powerOn straps s).OutOfService where
  handOffs := rfl
  arrivals := rfl
  pub := ⟨rfl, rfl, rfl, rfl, rfl, rfl, rfl, rfl, rfl⟩
  feeds := by simp [powerOn, State.reset]
  lines i := by
    show ((PerLine.all {}).get i : LineRx).unmarked
    rw [PerLine.get_all]
    exact LineRx.unmarked_of_none rfl

/-- A request that the state does not permit reaches neither the Publisher nor any block but the Request Handler (R171). -/
theorem State.carryOut_of_not_permitted {s : State} {code : Nat} (hs : permitted s.loader.state code = false)
    (act : Request → State) : SameBut { req := true } s (s.carryOut code act) := by
  rcases s.carryOut_cases code act with e | e | ⟨q, hp, -, -, -⟩
  · rw [e]; exact .refl _ _
  · rw [e]; exact State.finish_sameBut rfl _ _ _
  · rw [hs] at hp; cases hp

/-- A change that touches none of the five blocks of service keeps a station out of service. -/
theorem State.OutOfService.of_sameBut {w : Touched} {s t : State} (h : s.OutOfService) (e : SameBut w s t)
    (hw : w.handOffs = false ∧ w.arrivals = false ∧ w.pub = false ∧ w.feeds = false ∧ w.lines = false) : t.OutOfService := by
  obtain ⟨h1, h2, h3, h4, h5⟩ := hw
  exact h.of_eq (e.handOffs h1) (e.arrivals h2) (e.pub h3) (e.feeds h4) (e.lines h5)

/-- No command brings service to a station outside SERVING that holds none. -/
theorem effect_outOfService (c : Instr) (s : State) (hasm : s.pub.AsmSound) (hs : s.loader.state ≠ .serving) (h : s.OutOfService) :
    (effect c s).OutOfService := by
  by_cases hc : (touched c).handOffs = false ∧ (touched c).arrivals = false ∧ (touched c).pub = false ∧
      (touched c).feeds = false ∧ (touched c).lines = false
  · exact h.of_sameBut (effect_sameBut c s) hc
  cases c
  case powerOn straps => exact powerOn_outOfService straps s
  case linkUp i => exact lineLinkUp_outOfService i h
  case linkLoss i => exact lineLinkLoss_outOfService i h
  case settleTimerExpiry i => exact settleExpiry_outOfService i h
  case silenceTimerExpiry i => exact silenceExpiry_outOfService i h
  case startDelimiter i phase => exact startFrame_outOfService i phase hs h
  case frameByte i b codeError => exact frameByte_outOfService i b codeError h
  case frameEnd i => exact frameEnd_outOfService i h
  case classifyHandOff i => exact h.of_same (classifyHandOff_of_outOfService i h)
  case localArrival i => exact h.of_same (localArrival_of_outOfService i h)
  case gapExpiry i => exact h.of_same (gapExpiry_of_outOfService i h)
  case peerRecord => exact peerRecord_outOfService hs h
  case beaconTaken =>
    show (beaconTaken s).OutOfService
    rcases beaconTaken_cases s with e | e
    · exact h.of_sameBut e ⟨rfl, rfl, rfl, rfl, rfl⟩
    · rw [e]; exact State.enterConflict_outOfService _
  case recordTaken m => exact h.of_same (recordTaken_of_outOfService m h)
  case recordEntersFrame => exact h.of_same (recordEntersFrame_of_outOfService h)
  case batchTimerExpiry => exact h.of_same (batchTimerExpiry_of_outOfService hasm h)
  case markFire => exact h.of_same (markFire_of_outOfService h)
  case transmitChoice phase upsets => exact transmitChoice_outOfService phase upsets h
  case segmentTxEnd => exact State.endTx_outOfService h _
  case segmentLinkLoss =>
    show (segmentLinkLoss s).OutOfService
    unfold segmentLinkLoss
    split
    · exact (State.endTx_outOfService h .cut).of_eq rfl rfl rfl rfl rfl
    · exact h
  case dispatch straps =>
    show (dispatch straps s).OutOfService
    rcases dispatch_cases straps s with e | ⟨-, port, req, e⟩
    · exact h.of_sameBut e ⟨rfl, rfl, rfl, rfl, rfl⟩
    · rw [e]; exact State.restart_outOfService _ _
  case clearCounts part =>
    show (clearCountsRequest part s).OutOfService
    rcases clearCountsRequest_cases part s with ⟨b, e⟩ | e
    · rw [e]; exact (State.clearCounts_outOfService h b).of_eq rfl rfl rfl rfl rfl
    · exact h.of_sameBut e ⟨rfl, rfl, rfl, rfl, rfl⟩
  case mark => exact h.of_sameBut (State.carryOut_of_not_permitted (not_permitted_mark hs).1 _) ⟨rfl, rfl, rfl, rfl, rfl⟩
  case cancelMark => exact h.of_sameBut (State.carryOut_of_not_permitted (not_permitted_mark hs).2 _) ⟨rfl, rfl, rfl, rfl, rfl⟩
  case imageReadDone flash => exact imageReadDone_outOfService flash h
  all_goals exact absurd ⟨rfl, rfl, rfl, rfl, rfl⟩ hc

theorem clockStep_serving {s : State} (hs : s.loader.state = .serving) : (clockStep s).loader.state = .serving := by
  unfold clockStep
  split
  · exact hs
  · split
    · dsimp only
      split
      · rfl
      · simpa using hs
    · exact hs

theorem roundEnd_serving {s : State} (hs : s.loader.state = .serving) : (roundEnd s).loader.state = .serving := by
  unfold roundEnd
  rw [hs]
  split
  · simpa using hs
  · exact hs

/-- A station leaves SERVING by power-on, by CONFLICT or by a RESTART, and each empties it of service (R11, R72, R100, R157). -/
theorem effect_leavesServing (c : Instr) (s : State) (hs : s.loader.state = .serving)
    (hleft : (effect c s).loader.state ≠ .serving) : (effect c s).OutOfService := by
  have hkept {t : State} (e : t.loader = s.loader) (ht : t.loader.state ≠ .serving) : t.OutOfService :=
    absurd (e ▸ hs) ht
  by_cases hc : (touched c).loader = false
  · exact hkept ((effect_sameBut c s).loader hc) hleft
  cases c
  case powerOn straps => exact powerOn_outOfService straps s
  case clockStep => exact absurd (clockStep_serving hs) hleft
  case roundEnd => exact absurd (roundEnd_serving hs) hleft
  case beaconTaken =>
    rcases beaconTaken_cases s with e | e
    · exact hkept (e.loader rfl) hleft
    · exact (State.enterConflict_outOfService _).of_same e
  case dispatch straps =>
    rcases dispatch_cases straps s with e | ⟨-, port, req, e⟩
    · exact hkept (e.loader rfl) hleft
    · exact (State.restart_outOfService _ _).of_same e
  case imageReadDone flash => exact absurd hleft (by simp [effect, imageReadDone, hs])
  all_goals exact absurd rfl hc

theorem effect_keeps_service (c : Instr) (s : State) (h : s.ServiceSound) : (effect c s).ServiceSound := by
  obtain ⟨hidle, hasm⟩ := s.serviceSound_iff.1 h
  refine (State.serviceSound_iff _).2 ⟨fun hleft => ?_, effect_keeps_asm c s hasm⟩
  by_cases hs : s.loader.state = .serving
  · exact effect_leavesServing c s hs hleft
  · exact effect_outOfService c s hasm hs (hidle hs)

/-- Settles O56: every command keeps the assembly state sound and a station outside SERVING empty, and the commands that leave
SERVING empty it. -/
theorem serviceOnlyInServing : Obligations.ServiceOnlyInServing := by
  intro s t h hstep
  exact step_keeps (P := State.ServiceSound) (fun _ _ h => h) effect_keeps_service hstep h

end Sys2Proof.Machine
end

section
/-! ## The Line Receivers: link events, timers, and the life of a frame (R1 to R10, R123 to R127) -/

namespace Sys2Proof.Machine

set_option Elab.async false

/-! ### Link events (R1, R2) -/

/-- An image is in force in every state but LOADING and HALTED (R1). -/
theorem StationState.hasImage_eq_false (st : StationState) : st.hasImage = false ↔ st = .loading ∨ st = .halted := by
  cases st <;> simp [StationState.hasImage]

theorem ite_hasImage {α : Type} (st : StationState) (x y : α) :
    (if st.hasImage then x else y) = if st = .loading ∨ st = .halted then y else x := by
  by_cases h : st.hasImage = true
  · rw [if_pos h, if_neg (fun hn => by simp [(st.hasImage_eq_false).2 hn] at h)]
  · rw [if_neg h, if_pos ((st.hasImage_eq_false).1 (by simpa using h))]

theorem LineRx.chain_eq_bind (l : LineRx) : l.chain = l.frame.bind FrameRec.chain := by
  unfold LineRx.chain
  split
  next f hf => simp [hf]
  next hf => simp [hf]

theorem LineRx.linkLoss_eq (l : LineRx) :
    l.linkLoss = { l with state := .down, settleTimer := none, silenceTimer := none, frame := none,
                          cut := if l.frame = none then l.cut else bump l.cut } := by
  cases h : l.frame <;> simp [LineRx.linkLoss, h]

/-- Settles O3. -/
theorem lineLinkEvents : Obligations.LineLinkEvents := by
  constructor
  · intro i s hdown
    simp only [exec_eq_effect, effect, lineLinkUp, if_pos hdown, State.modifyLine, LineRx.linkUp, ite_hasImage,
      Config.ticksPerMs]
  · intro i s hup
    simp only [exec_eq_effect, effect, lineLinkLoss, if_neg hup, LineRx.linkLoss_eq, LineRx.chain_eq_bind]

/-! ### The line timers (R3, R4, R14) -/

theorem due_some (d now : Nat) : due (some d) now = decide (d ≤ now) := rfl

theorem State.lineCfg_some {s : State} {c : ImageCfg} (h : s.loader.config = some c) (i : Line) : s.lineCfg i = c.lines.get i := by
  simp [State.lineCfg, h]

theorem State.lineCfg_none {s : State} (h : s.loader.config = none) (i : Line) : s.lineCfg i = {} := by
  simp [State.lineCfg, h]

/-- A timer that is not yet due changes nothing (log 2). -/
theorem settleExpiry_early {i : Line} {s : State} {d : Nat} (h : (s.lines.get i).settleTimer = some d) (hd : s.clock.tick < d) :
    settleExpiry i s = s := by
  simp [settleExpiry, h, due_some, hd]

theorem silenceExpiry_early {i : Line} {s : State} {d : Nat} (h : (s.lines.get i).silenceTimer = some d)
    (hd : s.clock.tick < d) : silenceExpiry i s = s := by
  simp [silenceExpiry, h, due_some, hd]

/-- Settles O4. -/
theorem lineTimersDecide : Obligations.LineTimersDecide := by
  refine ⟨fun i s => ⟨fun c h => State.lineCfg_some h i, fun h => State.lineCfg_none h i⟩, ?_, ?_⟩
  · intro i s d h
    refine ⟨fun hd => ?_, fun hd hlimit => ?_, fun hd hlimit => ?_⟩
    · rw [exec_eq_effect]; exact congrArg _ (settleExpiry_early h hd)
    · simp [exec_eq_effect, effect, settleExpiry, h, due_some, hd, hlimit, State.modifyLine, Config.ticksPerMs]
    · simp [exec_eq_effect, effect, settleExpiry, h, due_some, hd, Nat.not_le.2 hlimit, State.modifyLine, State.raise]
  · intro i s d h
    refine ⟨fun hd => ?_, fun hd => ?_⟩
    · rw [exec_eq_effect]; exact congrArg _ (silenceExpiry_early h hd)
    · simp [exec_eq_effect, effect, silenceExpiry, h, due_some, hd, State.modifyLine, State.raise]

/-! ### The start of a frame (R6, R59, R124) -/

theorem Carriage.rank_injective {a b : Carriage} (h : a.rank = b.rank) : a = b := by
  cases a <;> cases b <;> simp_all [Carriage.rank]

/-- The larger of two modes, as the fold of R59 keeps it. -/
def Carriage.larger (m n : Carriage) : Carriage := if m.rank < n.rank then n else m

theorem Carriage.larger_rank (m n : Carriage) : (m.larger n).rank = max m.rank n.rank := by
  unfold Carriage.larger
  split <;> omega

/-- The largest mode of a list of feeds has a rank that a start and one of them has, and none exceeds. -/
theorem foldl_larger_rank (fs : List FeedSlot) (m : Carriage) :
    let r := (fs.foldl (fun m f => m.larger f.cfg.carriage) m).rank
    m.rank ≤ r ∧ (∀ f ∈ fs, f.cfg.carriage.rank ≤ r) ∧ (r = m.rank ∨ ∃ f ∈ fs, f.cfg.carriage.rank = r) := by
  induction fs generalizing m with
  | nil => simp
  | cons f fs ih =>
    obtain ⟨h1, h2, h3⟩ := ih (m.larger f.cfg.carriage)
    rw [Carriage.larger_rank] at h1 h3
    refine ⟨by simp only [List.foldl_cons]; omega, ?_, ?_⟩
    · intro g hg
      rcases List.mem_cons.1 hg with rfl | hg
      · simp only [List.foldl_cons]; omega
      · exact h2 g hg
    · rcases h3 with h3 | ⟨g, hg, h3⟩
      · rcases Nat.le_total m.rank f.cfg.carriage.rank with hle | hle
        · exact .inr ⟨f, List.mem_cons_self, by simp only [List.foldl_cons]; omega⟩
        · exact .inl (by simp only [List.foldl_cons]; omega)
      · exact .inr ⟨g, List.mem_cons_of_mem _ hg, h3⟩

theorem mem_feedList (feeds : List FeedSlot) (i : Line) (f : FeedSlot) :
    f ∈ feedList feeds i ↔ f ∈ feeds ∧ (f.cfg.aLine = i ∨ f.cfg.bLine = some i) := by
  simp [feedList, FeedCfg.onLine]

/-- A line's carriage is no smaller than that of any feed of its list, and is NONE or that of one of them (R59). -/
theorem lineCarriage_spec (feeds : List FeedSlot) (i : Line) :
    (∀ f ∈ feedList feeds i, f.cfg.carriage.rank ≤ (lineCarriage feeds i).rank) ∧
      (lineCarriage feeds i = .none ∨ ∃ f ∈ feedList feeds i, f.cfg.carriage = lineCarriage feeds i) := by
  obtain ⟨-, hle, hmem⟩ := foldl_larger_rank (feedList feeds i) .none
  refine ⟨hle, hmem.imp (fun h => Carriage.rank_injective h) fun ⟨f, hf, h⟩ => ⟨f, hf, Carriage.rank_injective h⟩⟩

theorem lineCarriage_full_iff (feeds : List FeedSlot) (i : Line) :
    lineCarriage feeds i = .full ↔ ∃ f ∈ feedList feeds i, f.cfg.carriage = .full := by
  obtain ⟨hle, hmem⟩ := lineCarriage_spec feeds i
  constructor
  · intro h
    simpa [h] using hmem
  · rintro ⟨f, hf, h⟩
    have := hle f hf
    cases e : lineCarriage feeds i <;> simp_all [Carriage.rank]

theorem lineCarriage_header_iff (feeds : List FeedSlot) (i : Line) :
    lineCarriage feeds i = .header ↔
      (∃ f ∈ feedList feeds i, f.cfg.carriage = .header) ∧ ∀ f ∈ feedList feeds i, f.cfg.carriage ≠ .full := by
  obtain ⟨hle, hmem⟩ := lineCarriage_spec feeds i
  constructor
  · intro h
    refine ⟨by simpa [h] using hmem, fun f hf e => ?_⟩
    have := hle f hf
    simp [h, e, Carriage.rank] at this
  · rintro ⟨⟨f, hf, h⟩, hno⟩
    have := hle f hf
    cases e : lineCarriage feeds i with
    | none => simp [e, h, Carriage.rank] at this
    | header => rfl
    | full =>
      obtain ⟨g, hg, eg⟩ := (lineCarriage_full_iff feeds i).1 e
      exact absurd eg (hno g hg)

theorem lineCarriage_none_iff (feeds : List FeedSlot) (i : Line) :
    lineCarriage feeds i = .none ↔ ∀ f ∈ feedList feeds i, f.cfg.carriage = .none := by
  obtain ⟨hle, hmem⟩ := lineCarriage_spec feeds i
  constructor
  · intro h f hf
    have := hle f hf
    rw [h] at this
    cases e : f.cfg.carriage <;> simp_all [Carriage.rank]
  · intro hall
    rcases hmem with h | ⟨f, hf, h⟩
    · exact h
    · rw [← h, hall f hf]

/-- A start delimiter on a line that is up with no frame in flight opens a frame of the line's class. -/
theorem startFrame_eq {i : Line} {p : Fin 16} {s : State} {cls : FrameClass} (hcls : (s.lines.get i).state.frameClass = some cls)
    (hframe : (s.lines.get i).frame = none) :
    startFrame i p s = { s with lines := s.lines.set i { s.lines.get i with
      frame := some (openFrame cls (decide (s.loader.state = .serving)) (s.clock.date p (s.lineCfg i).trim) i
        (lineCarriage s.feeds i)) } } := by
  simp [startFrame, hcls, hframe, State.modifyLine]

theorem LineState.frameClass_of_ne_down {st : LineState} (h : st ≠ .down) :
    ∃ cls, st.frameClass = some cls ∧ (cls = .live ↔ st = .live ∨ st = .silent) ∧ (cls = .settling ↔ st = .settling) ∧
      (cls = .faulted ↔ st = .faulted) := by
  cases st <;> simp_all [LineState.frameClass]

/-- Settles O5: the carriage by the two bounds of the fold over the line's feeds; the record field by field. -/
theorem startDelimiterOpensFrame : Obligations.StartDelimiterOpensFrame := by
  constructor
  · intro feeds i mapped
    have hmapped : ∀ f, mapped f ↔ f ∈ feedList feeds i := fun f => (mem_feedList feeds i f).symm
    refine ⟨?_, ?_, ?_⟩
    · simpa only [hmapped] using lineCarriage_full_iff feeds i
    · simpa only [hmapped] using lineCarriage_header_iff feeds i
    · simpa only [hmapped] using lineCarriage_none_iff feeds i
  · intro i p s hup hframe heard marked
    obtain ⟨cls, hcls, hlive, hsettling, hfaulted⟩ := LineState.frameClass_of_ne_down hup
    refine ⟨openFrame cls (decide (s.loader.state = .serving)) (s.clock.date p (s.lineCfg i).trim) i (lineCarriage s.feeds i),
      ?_, hlive, hsettling, hfaulted, ?_, rfl, rfl, rfl, rfl, rfl, rfl, rfl, ?_, ?_⟩
    · rw [exec_eq_effect]
      exact congrArg _ (startFrame_eq hcls hframe)
    · simp [openFrame, marked, heard, hlive]
    · rintro ⟨hheard, hserving⟩ hcarriage
      simp [openFrame, hlive.2 hheard, hserving, hcarriage]
    · intro h
      simp only [openFrame, ite_eq_right_iff, Bool.and_eq_true, decide_eq_true_eq, hlive]
      rintro ⟨hm, hcarriage⟩
      exact absurd h (by simp [marked, heard, hm, hcarriage])

/-! ### A byte of a frame (R7, R125) -/

theorem FrameRec.offers_eq_none {f : FrameRec}
    (h : f.cls ≠ .live ∨ f.mark = false ∨ f.truncated = true ∨ 1536 ≤ f.count ∨ f.chain = none) : f.offers = none := by
  unfold FrameRec.offers
  rw [ite_eq_right_iff]
  rintro ⟨hcls, hmark, htruncated, hcount⟩
  have : f.count < 1536 := hcount
  rcases h with h | h | h | h | h
  · exact absurd hcls h
  · simp [h] at hmark
  · exact absurd h htruncated
  · omega
  · exact h

theorem FrameRec.offers_eq_some {f : FrameRec} {c : Chain} (hchain : f.chain = some c) (hcls : f.cls = .live)
    (hmark : f.mark = true) (htruncated : f.truncated = false) (hcount : f.count < 1536) : f.offers = some c := by
  simp [FrameRec.offers, hchain, hcls, hmark, htruncated, hcount, Config.offerLimit]

section FrameByte

variable {i : Line} {b : Byte} {e : Bool} {s : State} {f : FrameRec}

/-- A byte that is not offered to the pool only enters the record. -/
theorem frameByte_not_offered (hf : (s.lines.get i).frame = some f) (ho : f.offers = none) :
    frameByte i b e s = { s with lines := s.lines.set i { s.lines.get i with frame := some (f.byte b e) } } := by
  simp [frameByte, hf, ho]

variable {c : Chain} (hf : (s.lines.get i).frame = some f) (ho : f.offers = some c)
include hf ho

theorem frameByte_passed (h : s.pool.offer c (lineCarriage s.feeds i) = .passed) :
    frameByte i b e s = { s with lines := s.lines.set i { s.lines.get i with frame := some (f.byte b e) } } := by
  simp [frameByte, hf, ho, h]

theorem frameByte_stored (h : s.pool.offer c (lineCarriage s.feeds i) = .stored) :
    frameByte i b e s = { s with lines := s.lines.set i { s.lines.get i with
      frame := some { f.byte b e with chain := some (c.append b) } } } := by
  simp [frameByte, hf, ho, h]

theorem frameByte_newPage (h : s.pool.offer c (lineCarriage s.feeds i) = .newPage) :
    frameByte i b e s = { s with
      lines := s.lines.set i { s.lines.get i with frame := some { f.byte b e with chain := some (c.append b) } },
      pool := s.pool.take c.line } := by
  simp [frameByte, hf, ho, h]

theorem frameByte_poolRefused (h : s.pool.offer c (lineCarriage s.feeds i) = .poolRefused) :
    frameByte i b e s = { s with
      lines := s.lines.set i { s.lines.get i with frame := some { f.byte b e with truncated := true } },
      pool := { s.pool with poolRefusals := bump s.pool.poolRefusals },
      req := s.req.raise .poolExhausted } := by
  simp [frameByte, hf, ho, h]

theorem frameByte_quotaRefused (h : s.pool.offer c (lineCarriage s.feeds i) = .quotaRefused) :
    frameByte i b e s = { s with
      lines := s.lines.set i { s.lines.get i with frame := some { f.byte b e with truncated := true } },
      pool := { s.pool with quotaRefusals := bump s.pool.quotaRefusals },
      req := s.req.raise .poolExhausted } := by
  simp [frameByte, hf, ho, h]

end FrameByte

/-- Settles O6: the byte is offered or not, and an offered byte meets the five cases of R125 in their order. -/
theorem frameByteIsTaken : Obligations.FrameByteIsTaken := by
  intro i b e s f hf g put limit
  simp only [exec_eq_effect, effect]
  refine ⟨fun h => congrArg _ (frameByte_not_offered hf (FrameRec.offers_eq_none h)), ?_⟩
  intro c hchain hcls hmark htruncated hcount
  have ho := FrameRec.offers_eq_some hchain hcls hmark htruncated hcount
  have hlimit : limit = (lineCarriage s.feeds i).captureLimit := by
    simp only [limit]; cases lineCarriage s.feeds i <;> rfl
  rw [hlimit]
  refine ⟨fun h => congrArg _ (frameByte_passed hf ho ?_), fun h h' => congrArg _ (frameByte_stored hf ho ?_),
    fun h h' h0 => congrArg _ (frameByte_poolRefused hf ho ?_), fun h h' h0 hq => congrArg _ (frameByte_quotaRefused hf ho ?_),
    fun h h' h0 hq => congrArg _ (frameByte_newPage hf ho ?_)⟩
  · simp [Pool.offer, h]
  · simp [Pool.offer, Nat.not_le.2 h, Config.pageBytes, h']
  · simp [Pool.offer, Nat.not_le.2 h, Config.pageBytes, h', h0]
  · simp [Pool.offer, Nat.not_le.2 h, Config.pageBytes, Config.lineQuota, h', h0, hq]
  · simp [Pool.offer, Nat.not_le.2 h, Config.pageBytes, Config.lineQuota, h', h0, hq]

/-! ### The end of a frame (R8 to R10, R127) -/

theorem FrameRec.captured_eq (f : FrameRec) :
    f.captured = match f.chain with | none => 0 | some c => min c.stored (min (f.count - 4) 1532) := by
  unfold FrameRec.captured
  cases f.chain <;> rfl

/-- The frame of a line that is not a marked live one is discarded at its end (R9). -/
theorem frameEnd_discards {i : Line} {s : State} {f : FrameRec} (hf : (s.lines.get i).frame = some f)
    (h : ¬ (f.cls = .live ∧ f.mark = true)) :
    frameEnd i s = { s with
      lines := s.lines.set i ((s.lines.get i).endFrame f (s.clock.tick + (s.lineCfg i).silenceMs * 250000)),
      pool := s.pool.releaseOpt f.chain } := by
  simp only [frameEnd, hf, if_neg h]
  rfl

/-- A marked live frame is handed to the Feed Classifier at its end (R10). -/
theorem frameEnd_hands {i : Line} {s : State} {f : FrameRec} (hf : (s.lines.get i).frame = some f)
    (h : f.cls = .live ∧ f.mark = true) :
    frameEnd i s = { s with
      lines := s.lines.set i ((s.lines.get i).endFrame f (s.clock.tick + (s.lineCfg i).silenceMs * 250000)),
      handOffs := s.handOffs ++ [f.handOff i] } := by
  simp only [frameEnd, hf, if_pos h]
  rfl

/-- The line state and the silence timer after a live frame (R4), of a line whose frame has ended. -/
theorem LineRx.heardLive_eq (l : LineRx) (deadline : Nat) :
    l.heardLive deadline =
      if l.state = .live ∨ l.state = .silent then { l with state := .live, silenceTimer := some deadline } else l := by
  unfold LineRx.heardLive
  split
  next h => rw [if_pos (.inl h), ← h]
  next h => rw [if_pos (.inr h)]
  all_goals next h => simp [h]

/-- Settles O8: by the class of the frame and its mark, and by whether it passes the frame check. -/
theorem frameEndDisposes : Obligations.FrameEndDisposes := by
  intro i s f hf l failed taken m deadline heard
  simp only [exec_eq_effect, effect]
  have hm : m = { l with frame := none, frames := bump l.frames,
                         fcsErrors := if f.check.isSome then bump l.fcsErrors else l.fcsErrors } := by
    cases hc : f.check <;> simp [m, failed, hc]
  have hheard : heard = if f.check.isSome then m else m.heardLive deadline := by
    rw [LineRx.heardLive_eq]
    cases hc : f.check <;> simp [heard, hc, m]
  have htaken : f.captured = taken := f.captured_eq
  refine ⟨fun hcls => ?_, fun hcls => ?_, fun hcls hmark => ?_, fun hcls hmark => ?_⟩
  · rw [frameEnd_discards hf (by simp [hcls]), hm]
    simp [LineRx.endFrame, hcls, failed, l, Option.isSome_iff_ne_none]
  · rw [frameEnd_discards hf (by simp [hcls]), hm]
    simp [LineRx.endFrame, hcls, l]
  · rw [frameEnd_discards hf (by simp [hmark]), hheard, hm]
    have hpre : ∀ n : LineRx, (n.heardLive deadline).preService = n.preService := fun n => by
      rw [LineRx.heardLive_eq]; split <;> rfl
    cases hc : f.check <;> simp [LineRx.endFrame, hcls, hmark, hc, l, deadline, hpre]
  · rw [frameEnd_hands hf ⟨hcls, hmark⟩, hheard, hm]
    have hcut : ∀ n : LineRx, (n.heardLive deadline).truncated = n.truncated := fun n => by
      rw [LineRx.heardLive_eq]; split <;> rfl
    cases hc : f.check <;> simp [LineRx.endFrame, FrameRec.handOff, hcls, hmark, hc, l, deadline, hcut, htaken]

end Sys2Proof.Machine
end

section
/-! ## The running frame check is the check of the whole frame (R7, R8) -/

namespace Sys2Proof.Machine

set_option Elab.async false

/-- The four bytes of a frame check sequence, low byte first. -/
theorem fcsBytes_eq (c : BitVec 32) :
    fcsBytes c = [c.extractLsb' 0 8, c.extractLsb' 8 8, c.extractLsb' 16 8, c.extractLsb' 24 8] := by
  have hbyte (k : Nat) : BitVec.ofNat 8 (c.toNat / 2 ^ k) = c.extractLsb' k 8 := by
    apply BitVec.eq_of_toNat_eq
    rw [BitVec.toNat_ofNat, BitVec.extractLsb'_toNat, Nat.shiftRight_eq_div_pow]
  rw [← hbyte 0, ← hbyte 8, ← hbyte 16, ← hbyte 24]
  rfl

/-- A new last byte of the tail, which keeps four. -/
def pushTail (t : List TailByte) (x : TailByte) : List TailByte := (if t.length < 4 then t else t.drop 1) ++ [x]

theorem FrameRec.byte_tail (f : FrameRec) (b : Byte) (e : Bool) :
    (f.byte b e).tail = pushTail f.tail { before := f.crc, byte := b } := rfl

theorem pushTail_length {t : List TailByte} (h : t.length ≤ 4) (x : TailByte) : (pushTail t x).length ≤ 4 := by
  unfold pushTail
  split <;> simp <;> omega

/-- Four new bytes are the whole tail. -/
theorem pushTail_four {t : List TailByte} (h : t.length ≤ 4) (a b c d : TailByte) :
    pushTail (pushTail (pushTail (pushTail t a) b) c) d = [a, b, c, d] := by
  match t, h with
  | [], _ => rfl
  | [_], _ => rfl
  | [_, _], _ => rfl
  | [_, _, _], _ => rfl
  | [_, _, _, _], _ => rfl

/-- The record of a frame after more bytes. -/
def FrameRec.receive (f : FrameRec) (xs : List (Byte × Bool)) : FrameRec := xs.foldl (fun g x => g.byte x.1 x.2) f

theorem FrameRec.receive_append (f : FrameRec) (xs ys : List (Byte × Bool)) :
    f.receive (xs ++ ys) = (f.receive xs).receive ys := List.foldl_append

/-- What a record has counted, summed up and noted of the bytes received. -/
theorem FrameRec.receive_running (f : FrameRec) (xs : List (Byte × Bool)) (ht : f.tail.length ≤ 4) :
    (f.receive xs).count = f.count + xs.length ∧ (f.receive xs).crc = (xs.map Prod.fst).foldl crcByte f.crc ∧
      (f.receive xs).codeError = (f.codeError || xs.any Prod.snd) ∧ (f.receive xs).tail.length ≤ 4 := by
  induction xs generalizing f with
  | nil => simpa [FrameRec.receive] using ht
  | cons x xs ih =>
    obtain ⟨hcount, hcrc, hcode, htail⟩ := ih (f.byte x.1 x.2) (pushTail_length ht _)
    refine ⟨hcount.trans ?_, hcrc, hcode.trans ?_, htail⟩
    · simp only [FrameRec.byte, List.length_cons]; omega
    · simp [FrameRec.byte, Bool.or_assoc]

/-- The tail of a frame of at least four bytes: its final four, the first with the CRC of the bytes before it. -/
theorem FrameRec.receive_tailMatches (f : FrameRec) (xs : List (Byte × Bool)) (w x y z : Byte × Bool) (ht : f.tail.length ≤ 4)
    (hcrc : f.crc = BitVec.allOnes 32) :
    tailMatches (f.receive (xs ++ [w, x, y, z])).tail =
      decide (fcsBytes (crc32 (xs.map Prod.fst)) = [w.1, x.1, y.1, z.1]) := by
  obtain ⟨-, hg, -, htail⟩ := f.receive_running xs ht
  rw [FrameRec.receive_append]
  simp only [FrameRec.receive, List.foldl_cons, List.foldl_nil] at htail hg ⊢
  rw [FrameRec.byte_tail, FrameRec.byte_tail, FrameRec.byte_tail, FrameRec.byte_tail, pushTail_four htail]
  rw [tailMatches, hg, hcrc]
  rfl

theorem exists_append_four {α : Type} {xs : List α} (h : 4 ≤ xs.length) : ∃ ys w x y z, xs = ys ++ [w, x, y, z] := by
  have hlast : (xs.drop (xs.length - 4)).length = 4 := by simp; omega
  obtain ⟨w, x, y, z, e⟩ : ∃ w x y z, xs.drop (xs.length - 4) = [w, x, y, z] := by
    match xs.drop (xs.length - 4), hlast with
    | [w, x, y, z], _ => exact ⟨w, x, y, z, rfl⟩
  exact ⟨xs.take (xs.length - 4), w, x, y, z, by rw [← e, List.take_append_drop]⟩

/-- Settles O9: the running record's count, CRC, tail and code error flag are those of the whole frame. -/
theorem frameCheckReadsWholeFrame : Obligations.FrameCheckReadsWholeFrame := by
  refine ⟨fun c b bs => ⟨rfl, rfl, fcsBytes_eq c⟩, ?_⟩
  intro cls date xs hlen f bs
  have hrun := FrameRec.receive_running { cls := cls, date := date } xs (by simp)
  obtain ⟨hcount, -, hcode, -⟩ := hrun
  obtain ⟨ys, w, x, y, z, rfl⟩ := exists_append_four hlen
  have htail := FrameRec.receive_tailMatches { cls := cls, date := date } ys w x y z (by simp) rfl
  have hbs : bs = ys.map Prod.fst ++ [w.1, x.1, y.1, z.1] := by simp [bs]
  have hlast : bs.drop (bs.length - 4) = [w.1, x.1, y.1, z.1] := by simp [hbs]
  have hfirst : bs.take (bs.length - 4) = ys.map Prod.fst := by simp [hbs]
  have hlength : f.count = bs.length := by
    show (FrameRec.receive _ _).count = _
    rw [hcount]; simp [bs]
  have hcodeError : f.codeError = (ys ++ [w, x, y, z]).any Prod.snd := by
    show (FrameRec.receive _ _).codeError = _
    rw [hcode]; rfl
  have hmatches : tailMatches f.tail = decide (fcsBytes (crc32 (ys.map Prod.fst)) = [w.1, x.1, y.1, z.1]) := htail
  unfold FrameRec.check
  rw [hlast, hfirst, hlength, hcodeError, hmatches]
  simp only [decide_eq_true_eq, eq_comm (a := fcsBytes _), ne_eq]

end Sys2Proof.Machine
end

section
/-! ## A RESTART starts the station afresh (R13, R56, R100, R135, R150, R157, R168, R173, R185, R187, R194) -/

namespace Sys2Proof.Machine

set_option Elab.async false

/-! ### The response queue -/

/-- A queue cut to its size before more is appended, or after. -/
theorem take_append_of_take {α : Type} (n : Nat) (xs ys : List α) : (xs.take n ++ ys).take n = (xs ++ ys).take n := by
  rw [List.take_append, List.take_append, List.take_take, Nat.min_self, List.length_take,
    show n - min n xs.length = n - xs.length by omega]

/-- A response is formed as far as the queue holds it (R172). -/
theorem ReqHandler.respond_responses (r : ReqHandler) (p : Response) (h : r.responses.length ≤ 4) :
    (r.respond p).responses = (r.responses ++ [p]).take 4 := by
  rcases r.respond_cases p with ⟨hlt, e⟩ | ⟨hle, e⟩
  · have hlt : r.responses.length < 4 := hlt
    rw [e, List.take_of_length_le (by simp; omega)]
  · have hle : 4 ≤ r.responses.length := hle
    rw [e, List.take_append_of_le_length hle, List.take_of_length_le h]

/-- One queued request answered FLUSHED and counted (R173). -/
def ReqHandler.flushOne (h : ReqHandler) (q : Request) : ReqHandler :=
  ({ h with counts := { h.counts with flushed := bump h.counts.flushed } } : ReqHandler).respond (q.answer .flushed [])

theorem ReqHandler.foldl_flushOne_responses (qs : List Request) (r : ReqHandler) (h : r.responses.length ≤ 4) :
    (qs.foldl flushOne r).responses = (r.responses ++ qs.map (fun q => q.answer .flushed [])).take 4 := by
  induction qs generalizing r with
  | nil => simp [List.take_of_length_le h]
  | cons q qs ih =>
    have hone : (r.flushOne q).responses = (r.responses ++ [q.answer .flushed []]).take 4 :=
      ReqHandler.respond_responses _ _ h
    rw [List.foldl_cons, ih _ (by rw [hone]; simp), hone, take_append_of_take, List.map_cons, List.append_assoc]
    rfl

/-- The queue answered FLUSHED, head to tail, as far as the response queue holds (R173, R172). -/
theorem ReqHandler.flush_responses (r : ReqHandler) (h : r.responses.length ≤ 4) :
    r.flush.responses = (r.responses ++ r.queue.map (fun q => q.answer .flushed [])).take 4 :=
  ReqHandler.foldl_flushOne_responses r.queue _ h

/-! ### The pages of a sound pool -/

theorem pagesOf_nil (i : Line) : pagesOf [] i = 0 := rfl

theorem pagesOf_cons (c : Chain) (cs : List Chain) (i : Line) :
    pagesOf (c :: cs) i = (if c.line = i then c.pages.length else 0) + pagesOf cs i := by
  unfold pagesOf
  by_cases h : c.line = i <;> simp [h]

/-- Chains that hold every page that is not free leave, once released, every page free (R123). -/
theorem Pool.releaseAll_free (cs : List (Option Chain)) (p : Pool) (h : ∀ i, p.held.get i = pagesOf cs.reduceOption i) :
    (p.releaseAll cs).held = PerLine.all 0 ∧ (p.releaseAll cs).free = p.free + p.held.toList.sum := by
  induction cs generalizing p with
  | nil =>
    have hall : p.held = PerLine.all 0 := by
      ext i; simpa [pagesOf_nil] using h i
    simp [hall, PerLine.all, PerLine.toList]
  | cons c cs ih =>
    cases c with
    | none => simpa using ih p (by simpa using h)
    | some c =>
      have hc : p.held.get c.line = c.pages.length + pagesOf cs.reduceOption c.line := by
        simpa [pagesOf_cons] using h c.line
      have hrest : ∀ i, (p.release c.line c.pages.length).held.get i = pagesOf cs.reduceOption i := by
        intro i
        rw [Pool.release_held, PerLine.get_set]
        split
        next e => subst e; omega
        next e =>
          have := h i
          rw [List.reduceOption_cons_of_some, pagesOf_cons, if_neg (fun e' => e e'.symm)] at this
          omega
      have htotal := p.release_total c.line c.pages.length (by omega)
      obtain ⟨hheld, hfree⟩ := ih _ hrest
      rw [Pool.releaseAll_cons, Pool.releaseOpt_some]
      exact ⟨hheld, hfree.trans htotal⟩

/-- Of a sound frame record the chain is one that ends with service (R124, R11). -/
theorem LineRx.markedChain_eq {l : LineRx} (h : l.chainMarked) : l.markedChain = l.chain := by
  cases hf : l.frame with
  | none => simp only [LineRx.markedChain, LineRx.chain, hf]
  | some f =>
    simp only [LineRx.chainMarked, hf] at h
    simp only [LineRx.markedChain, LineRx.chain, hf]
    split
    · rfl
    next hn =>
      cases hc : f.chain with
      | none => rfl
      | some c =>
        obtain ⟨hcls, hmark, -⟩ := h c hc
        exact absurd ⟨hcls, hmark⟩ hn

@[simp] theorem State.endTx_pub_records (s : State) (e : TxEnding) : (s.endTx e).pub.records = s.pub.records := by
  unfold State.endTx
  split <;> rfl

@[simp] theorem State.abandonPublication_pub_records (s : State) : s.abandonPublication.pub.records = s.pub.records := by
  unfold State.abandonPublication
  repeat' split
  all_goals simp

theorem State.serviceChains_eq {s : State} (h : s.PoolSound) : s.serviceChains.reduceOption = s.chains := by
  obtain ⟨-, -, -, -, hmarked⟩ := h
  have hlines : s.lines.toList.map LineRx.markedChain = s.lines.toList.map LineRx.chain := by
    apply List.map_congr_left
    intro l hl
    obtain ⟨i, rfl⟩ := (PerLine.mem_toList _ _).1 hl
    exact LineRx.markedChain_eq (hmarked i)
  rw [State.serviceChains, hlines, State.chains]

/-- From a sound pool every page is free once the station has left service (R135). -/
theorem State.leaveService_pool_free {s : State} (h : s.PoolSound) :
    s.leaveService.pool.held = PerLine.all 0 ∧ s.leaveService.pool.free = 4096 := by
  have hchains : s.abandonPublication.serviceChains = s.serviceChains := by
    simp only [State.serviceChains, State.abandonPublication_lines, State.abandonPublication_handOffs,
      State.abandonPublication_arrivals, State.abandonPublication_pub_records]
  have hserv := State.serviceChains_eq h
  obtain ⟨htotal, hheld, -⟩ := h
  obtain ⟨h1, h2⟩ := s.pool.releaseAll_free s.serviceChains (by rw [hserv]; exact hheld)
  rw [State.leaveService_pool, hchains]
  exact ⟨h1, h2.trans htotal⟩

/-! ### The segment transmitter -/

/-- A publication frame being sent is abandoned (R150). -/
theorem State.abandonPublication_port_of_publication {s : State} {g : TxFrame} (htx : s.port.tx = some g)
    (hk : g.kind = .publication) :
    s.abandonPublication.port = { s.port with tx := none, wire := some { frame := g, ending := .abandoned } } := by
  simp [State.abandonPublication, State.endTx, htx, hk]

/-- A frame of any other kind goes on (R160). -/
theorem State.abandonPublication_of_other {s : State} (h : ∀ g, s.port.tx = some g → g.kind ≠ .publication) :
    s.abandonPublication = s := by
  unfold State.abandonPublication
  split
  next g hg => rw [if_neg (h g hg)]
  · rfl

/-- The receive side and the link are not the transmitter's. -/
theorem State.abandonPublication_port_receive (s : State) :
    s.abandonPublication.port.link = s.port.link ∧ s.abandonPublication.port.rx = s.port.rx ∧
      s.abandonPublication.port.rxQueue = s.port.rxQueue := by
  unfold State.abandonPublication State.endTx
  repeat' split
  all_goals exact ⟨rfl, rfl, rfl⟩

/-! ### The blocks after a RESTART -/

@[simp] theorem State.restart_loader (s : State) (straps : Nat) :
    (s.restart straps).loader =
      { state := .loading, station := straps, identity := s.loader.identity, imageStatus := .loading, clamped := 0,
        restarts := bump s.loader.restarts, config := none } := by
  simp [State.restart]

@[simp] theorem State.restart_arbiter (s : State) (straps : Nat) :
    (s.restart straps).arbiter = { frame := s.arbiter.frame } := by simp [State.restart]

@[simp] theorem State.restart_port (s : State) (straps : Nat) :
    (s.restart straps).port = { s.abandonPublication.port with counts := {} } := rfl

@[simp] theorem State.restart_req (s : State) (straps : Nat) :
    (s.restart straps).req = { responses := s.req.responses } := by simp [State.restart, ReqHandler.restarted]

@[simp] theorem State.restart_pending (s : State) (straps : Nat) : (s.restart straps).pending = s.pending := by
  simp [State.restart]

/-- The pool after a RESTART from a sound one: as at power-on (R135). -/
theorem State.restart_pool {s : State} (h : s.PoolSound) (straps : Nat) : (s.restart straps).pool = {} := by
  obtain ⟨hheld, hfree⟩ := State.leaveService_pool_free h
  simp [State.restart, -State.leaveService_pool, hheld, hfree, Config.poolPages]

/-- A line after a RESTART (R11, R13). -/
theorem State.restart_line (s : State) (straps : Nat) (i : Line) :
    (s.restart straps).lines.get i =
      { state := if (s.lines.get i).state = .down then .down else .settling,
        frame := (s.lines.get i).frame.map FrameRec.unmark } := by
  rw [State.restart_lines, PerLine.get_map, State.leaveService_lines, PerLine.get_map]
  unfold LineRx.restarted
  split <;> simp [*]

/-! ### The head of the receive queue is a RESTART -/

/-- A frame read as a request is of that kind. -/
theorem frameKind_of_request {bs : List Byte} {target : Nat} {q : Request} (h : readFrame bs = .request target q) :
    frameKind bs = 3 := by
  unfold readFrame at h
  split at h
  · cases h
  · split at h
    case h_3 hk => exact hk
    all_goals first | cases h | (split at h <;> cases h)

/-- The state at the arrival of a RESTART: the head has left the receive queue and the request is counted. -/
def State.restartReceived (s : State) (rest : List RxFrame) : State :=
  { s with port := { s.port with rxQueue := rest },
           req := { s.req with counts := { s.req.counts with received := bump s.req.counts.received } } }

theorem dispatch_restart {straps : Fin 16} {s : State} {f : RxFrame} {rest : List RxFrame} {target : Nat} {q : Request}
    (hqueue : s.port.rxQueue = f :: rest) (hinbox : s.agr.inbox = none) (hread : readFrame f.bytes = .request target q)
    (htarget : target = s.loader.station ∨ target = 255) (hcode : q.code = 10) :
    dispatch straps s = (s.restartReceived rest).restartArrives q straps := by
  have hready : s.dispatchReady f.bytes = true := by
    simp [State.dispatchReady, hinbox, frameKind_of_request hread, FrameKind.code]
  simp [dispatch, hqueue, hready, hread, State.deliver, htarget, State.requestArrives, hcode, restartCode,
    State.restartReceived]

/-- The state from which a RESTART begins: the queue flushed and the RESTART answered (R173). -/
def State.restartAnswered (s : State) (rest : List RxFrame) (q : Request) : State :=
  (s.restartReceived rest).flushRequests.respond (q.answer .ok [])

theorem State.restartArrives_begins {s : State} (hs : s.loader.state ≠ .loading) (rest : List RxFrame) (q : Request)
    (straps : Fin 16) :
    (s.restartReceived rest).restartArrives q straps = (s.restartAnswered rest q).restart straps.val := if_neg hs

/-- The flush and the answer touch the Request Handler, a SET_SECONDS handed over, and the head of the receive queue alone. -/
theorem State.restartAnswered_sameBut (s : State) (rest : List RxFrame) (q : Request) :
    SameBut { clock := true, port := true, req := true } s (s.restartAnswered rest q) := by
  constructor <;> simp [State.restartAnswered, State.restartReceived]

@[simp] theorem State.restartAnswered_clock (s : State) (rest : List RxFrame) (q : Request) :
    (s.restartAnswered rest q).clock = { s.clock with pendingSeconds := none } := rfl

theorem State.restartAnswered_responses {s : State} (h : s.req.responses.length ≤ 4) (rest : List RxFrame) (q : Request) :
    (s.restartAnswered rest q).req.responses =
      (s.req.responses ++ s.req.queue.map (fun x => x.answer .flushed []) ++ [q.answer .ok []]).take 4 := by
  have hflush := ReqHandler.flush_responses (s.restartReceived rest).req h
  have hanswer := ReqHandler.respond_responses (s.restartReceived rest).req.flush (q.answer .ok []) (by rw [hflush]; simp)
  refine hanswer.trans ?_
  rw [hflush, take_append_of_take]
  rfl

/-- Settles O43: the RESTART is refused in LOADING; else the queue is flushed, the request answered, and each block restarted. -/
theorem restartStartsAfresh : Obligations.RestartStartsAfresh := by
  intro straps s f rest target q hqueue hinbox hread htarget hcode hlen answer unmark
  simp only [exec_eq_effect, effect, dispatch_restart hqueue hinbox hread htarget hcode]
  refine ⟨fun hloading hroom => ?_, fun hs => ⟨_, rfl, ?_⟩⟩
  · simp [State.restartArrives, State.restartReceived, hloading, ReqHandler.respond, hroom, Config.responseLimit,
      Request.answer, answer]
  · have hsame := s.restartAnswered_sameBut rest q
    obtain ⟨hlink, hrx, hrxQueue⟩ := State.abandonPublication_port_receive (s.restartAnswered rest q)
    rw [State.restartArrives_begins hs]
    refine ⟨?_, ?_, rfl, rfl, rfl, rfl, ?_, fun i => ?_, fun hpool => ?_, rfl, ?_, ?_, ?_, rfl, fun g hg hk => ?_,
      fun hother => ?_, ?_, ?_⟩
    · rw [State.restart_loader, hsame.loader rfl]
    · rw [State.restart_clock, State.restartAnswered_clock]
    · rw [State.restart_arbiter, hsame.arbiter rfl]
    · rw [State.restart_line, hsame.lines rfl]
      rfl
    · exact State.restart_pool (s := s.restartAnswered rest q) hpool straps.val
    · rw [State.restart_port]; exact hlink
    · rw [State.restart_port]; exact hrx
    · rw [State.restart_port]; exact hrxQueue
    · rw [State.restart_port, State.abandonPublication_port_of_publication (s := s.restartAnswered rest q) hg hk]
      exact ⟨rfl, rfl⟩
    · rw [State.restart_port, State.abandonPublication_of_other (s := s.restartAnswered rest q) hother]
      exact ⟨rfl, rfl⟩
    · rw [State.restart_req, State.restartAnswered_responses hlen]
      rfl
    · rw [State.restart_pending, hsame.pending]

end Sys2Proof.Machine
end

section
/-! ## The end of the image read (R14, R33, R34, R56, R58, R74, R185, R188, R190, R192) -/

namespace Sys2Proof.Machine

set_option Elab.async false

/-- The gate test as R182 words it. -/
theorem ReqHandler.gateTest_eq (r : ReqHandler) :
    r.gateTest = if r.gateOpen = true ∧ r.set &&& r.enabled ≠ 0 then { r with gateOpen := false, alertPending := true } else r := by
  rcases r.gateTest_cases with ⟨h1, h2, e⟩ | ⟨h, e⟩
  · rw [e, if_pos ⟨h1, h2⟩]
  · rw [e, if_neg h]

/-- An image of `n` feeds is 116 bytes and 40 for each feed (section 12.6). -/
theorem imageLength_eq (n : Nat) : imageLength n = 116 + 40 * n := by
  simp only [imageLength, fixedBytes, entryBytes]; omega

theorem imageReadDone_of_fault {flash : List Byte} {s : State} (hs : s.loader.state = .loading) {cause : RejectCause}
    (h : imageFault flash = some cause) : imageReadDone flash s = s.reject cause := by
  simp [imageReadDone, hs, h]

theorem imageReadDone_of_sound {flash : List Byte} {s : State} (hs : s.loader.state = .loading) (h : imageFault flash = none) :
    imageReadDone flash s = s.accept (readImage (readFlash flash (116 + 40 * natAt (readFlash flash 112) 108 2))) := by
  simp [imageReadDone, hs, h, imageLength_eq, imageFeeds, fixedBytes]

/-- The Agreement Unit at the acceptance: numbers and timers restart, and a beacon is due, or skipped with the link DOWN (R34). -/
theorem Agreement.accepted_eq (a : Agreement) (beaconMs now : Nat) (link : LinkState) :
    a.accepted beaconMs now link = { a with
      beaconNumber := 0, roundCount := 0,
      beaconTimer := some (now + beaconMs * 250000),
      roundTimer := some (now + 16 * (beaconMs * 250000)),
      beaconDue := if link = .up then true else a.beaconDue,
      skipped := if link = .up then a.skipped else bump a.skipped } := by
  cases link <;> rfl

theorem Anchor.accepted_eq (a : Anchor) (enabled : Bool) (now : Nat) :
    a.accepted enabled now =
      if enabled = true then { a with state := .seeking, window := some (now + 275000000) } else { a with state := .none } := rfl

/-- A line at the acceptance: one in SETTLING starts its settle timer (R14). -/
theorem acceptLines_line (ls : PerLine LineRx) (cfg : PerLine LineCfg) (now : Nat) (i : Line) :
    (acceptLines ls cfg now).get i =
      if (ls.get i).state = .settling then { ls.get i with settleTimer := some (now + (cfg.get i).settleMs * 250000) }
      else ls.get i := acceptLines_get ls cfg now i

/-- Settles O49: the Loader's decision, and each block's part of an acceptance by its own equation. -/
theorem imageReadDecides : Obligations.ImageReadDecides := by
  intro flash s hs tested
  rw [exec_eq_effect, effect]
  constructor
  · intro cause h
    rw [imageReadDone_of_fault hs h]
    simp only [State.reject, ReqHandler.enable, ReqHandler.gateTest_eq, tested]
  · intro h n a enabled
    have henabled : s.req.enable a.config.enables = enabled := ReqHandler.gateTest_eq _
    refine ⟨acceptLines s.lines a.config.lines s.clock.tick, acceptLines_line _ _ _, ?_⟩
    rw [imageReadDone_of_sound hs h]
    simp only [State.accept, ReqHandler.raiseIf, Agreement.accepted_eq, Anchor.accepted_eq, decide_eq_true_eq]
    rw [← henabled]

end Sys2Proof.Machine
end

section
/-! ## Reading what was written: numbers, zeros and cage times in a list of fields (R196)

A frame and a record are fields written one after another. To read the field at an offset, the fields before it are passed over
(`natAt_append_right` and its like, whose premise and offset `simp` reckons), and the field that then stands first is read. -/

namespace Sys2Proof.Machine

set_option Elab.async false

/-! ### Passing over a field, and leaving out what follows -/

theorem slice_append_of_le (as bs : List Byte) (off n : Nat) (h : off + n ≤ as.length) :
    slice (as ++ bs) off n = slice as off n := by
  rw [slice, slice, List.drop_append_of_le_length (by omega), List.take_append_of_le_length (by rw [List.length_drop]; omega)]

theorem natAt_append_right (as bs : List Byte) (off n : Nat) (h : as.length ≤ off) :
    natAt (as ++ bs) off n = natAt bs (off - as.length) n := by
  rw [natAt, slice_append_right as bs off n h, natAt]

theorem natAt_append_of_le (as bs : List Byte) (off n : Nat) (h : off + n ≤ as.length) :
    natAt (as ++ bs) off n = natAt as off n := by
  rw [natAt, slice_append_of_le as bs off n h, natAt]

theorem timeAt_append_right (as bs : List Byte) (off : Nat) (h : as.length ≤ off) :
    timeAt (as ++ bs) off = timeAt bs (off - as.length) := by
  simp only [timeAt, natAt_append_right as bs off 6 h, natAt_append_right as bs (off + 6) 4 (by omega),
    Nat.sub_add_comm h]

/-! ### The field that stands first -/

/-- A number is read back modulo what its bytes hold. -/
theorem natAt_toBE_append (k n : Nat) (bs : List Byte) : natAt (toBE k n ++ bs) 0 k = n % 256 ^ k := by
  rw [natAt, slice_append_left _ _ _ (toBE_length k n), fromBE_toBE]

/-- A saturating number within its bytes is written as it is (R199). -/
theorem toBESat_of_lt {k n : Nat} (h : n < 256 ^ k) : toBESat k n = toBE k n := by
  rw [toBESat, Nat.min_eq_left (by omega)]

/-- A date whose fields are within their ranges. -/
def CageTime.Timed (d : CageTime) : Prop := d.sec < 281474976710656 ∧ d.ns < 1000000000 ∧ d.quarter < 4

/-- A cage time within its ranges is read back whole. -/
theorem timeAt_timeBytes_append {d : CageTime} (h : d.Timed) (bs : List Byte) : timeAt (timeBytes d ++ bs) 0 = d := by
  obtain ⟨hsec, hns, hquarter⟩ := h
  have h0 : natAt (timeBytes d ++ bs) 0 6 = d.sec := by
    rw [timeBytes, List.append_assoc, natAt_toBE_append, Nat.mod_eq_of_lt (by norm_num; omega)]
  have h6 : natAt (timeBytes d ++ bs) 6 4 = d.ns * 4 + d.quarter := by
    rw [timeBytes, List.append_assoc, natAt_append_right _ _ _ _ (by simp), toBE_length, Nat.sub_self, natAt_toBE_append,
      Nat.mod_eq_of_lt (by norm_num; omega)]
  rw [timeAt, h0, Nat.zero_add, h6, show (d.ns * 4 + d.quarter) / 4 = d.ns by omega,
    show (d.ns * 4 + d.quarter) % 4 = d.quarter by omega]

/-- A date within its ranges is one that a record may carry (R26, R104). -/
theorem CageTime.Timed.valid {d : CageTime} (h : d.Timed) : d.valid = true := by
  obtain ⟨-, hns, hquarter⟩ := h
  simp [CageTime.valid, hns, hquarter]

/-- Zeros are read as zeros. -/
theorem slice_zeros_append (n : Nat) (bs : List Byte) : slice (zeros n ++ bs) 0 n = List.replicate n 0 :=
  slice_append_left _ _ _ (zeros_length n)

theorem slice_zeros (n : Nat) : slice (zeros n) 0 n = List.replicate n 0 := by simpa using slice_zeros_append n []

theorem toBE_zero (n : Nat) : toBE n 0 = zeros n := by
  induction n with
  | zero => rfl
  | succ n ih => rw [toBE, ih, zeros, zeros, List.replicate_succ]; simp

/-- A byte that follows the bytes read is the least significant of one more. -/
theorem natAt_succ {bs : List Byte} {off k : Nat} {b : Byte} (h : bs[off + k]? = some b) :
    natAt bs off (k + 1) = natAt bs off k * 256 + b.toNat := by
  have hslice : slice bs off (k + 1) = slice bs off k ++ [b] := by
    rw [slice, slice, List.take_add_one, List.getElem?_drop, h]
    rfl
  rw [natAt, natAt, hslice, fromBE, fromBE, List.foldl_append]
  rfl

/-! ### A frame with its frame check sequence -/

theorem withFcs_take (bs : List Byte) : (withFcs bs).take ((withFcs bs).length - 4) = bs := by
  simp [withFcs]

/-- A frame of 60 to 9,212 bytes ended with its check sequence passes the frame check (R162, test 1). -/
theorem frameSound_withFcs {bs : List Byte} (h1 : 60 ≤ bs.length) (h2 : bs.length ≤ 9212) : frameSound (withFcs bs) false = true := by
  have hlast : (withFcs bs).drop ((withFcs bs).length - 4) = fcsBytes (crc32 bs) := by simp [withFcs]
  unfold frameSound
  rw [withFcs_take, hlast]
  simp only [withFcs_length, Bool.not_false, Bool.true_and, decide_true, Bool.and_true, Bool.and_eq_true, decide_eq_true_eq]
  omega

/-! ### The common header (section 12.2) -/

section Header

variable (s : State) (k : FrameKind) (station : Nat) (identity : Identity) (n : Nat) (content : List Byte)

/-- A frame before its check sequence: header, content and padding. -/
def State.frameBody : List Byte := padFrame (s.header k station identity n ++ content)

theorem State.buildFrame_eq : s.buildFrame k station identity content =
    { kind := k, bytes := withFcs (s.frameBody k station identity content.length content) } := rfl

theorem State.frameBody_length : (s.frameBody k station identity n content).length = max (26 + content.length) 60 := by
  simp [State.frameBody, padFrame_length]

theorem natAt_identity_append (x : Identity) (bs : List Byte) : natAt (toBE 6 x.toNat ++ bs) 0 6 = x.toNat := by
  rw [natAt_toBE_append, Nat.mod_eq_of_lt (lt_of_lt_of_eq x.isLt (by norm_num))]

theorem State.frameBody_group : natAt (s.frameBody k station identity n content) 0 6 = s.group.toNat := by
  simp only [State.frameBody, padFrame, State.header, List.append_assoc, natAt_identity_append]

theorem State.frameBody_type : natAt (s.frameBody k station identity n content) 12 2 = s.typeCode % 65536 := by
  simp [State.frameBody, padFrame, State.header, natAt_append_right, natAt_toBE_append]

theorem State.frameBody_kind : natAt (s.frameBody k station identity n content) 14 1 = k.code := by
  simp [State.frameBody, padFrame, State.header, natAt_append_right, natAt_toBE_append]
  cases k <;> decide

theorem State.frameBody_station : natAt (s.frameBody k station identity n content) 15 1 = station % 256 := by
  simp [State.frameBody, padFrame, State.header, natAt_append_right, natAt_toBE_append]

theorem State.frameBody_cage : natAt (s.frameBody k station identity n content) 16 2 = s.cageSent % 65536 := by
  simp [State.frameBody, padFrame, State.header, natAt_append_right, natAt_toBE_append]

theorem State.frameBody_identity : natAt (s.frameBody k station identity n content) 18 6 = identity.toNat := by
  simp [State.frameBody, padFrame, State.header, natAt_append_right, natAt_identity_append]

theorem State.frameBody_contentLength : natAt (s.frameBody k station identity n content) 24 2 = n % 65536 := by
  simp [State.frameBody, padFrame, State.header, natAt_append_right, natAt_toBE_append]

theorem State.frameBody_content :
    slice (s.frameBody k station identity n content) 26 content.length = content := by
  rw [State.frameBody, padFrame, List.append_assoc, slice_append_right _ _ _ _ (by simp), header_length, Nat.sub_self,
    slice_append_left _ _ _ rfl]

end Header

end Sys2Proof.Machine
end

section
/-! ## Frames built are frames read; a beacon read back (R8, R160 to R165, R196, sections 9.3, 12.2 and 12.3) -/

namespace Sys2Proof.Machine

set_option Elab.async false

/-! ### The tag and the content of a frame built -/

section Built

variable {s : State} {k : FrameKind} {station : Nat} {identity : Identity} {content : List Byte}

/-- A type code that is no VLAN tag leaves the frame untagged. -/
theorem State.frameBody_untagged {n : Nat} (h1 : s.typeCode < 65536) (h2 : s.typeCode ≠ 0x8100) (h3 : s.typeCode ≠ 0x88A8) :
    tagLength (s.frameBody k station identity n content) = 0 := by
  have htype : natAt (s.frameBody k station identity n content) 12 2 = s.typeCode := by
    rw [State.frameBody_type, Nat.mod_eq_of_lt h1]
  simp [tagLength, htype, h2, h3]

variable (htag : tagLength (s.frameBody k station identity content.length content) = 0)
include htag

theorem State.frameContent_frameBody (hlen : content.length < 65536) :
    frameContent (s.frameBody k station identity content.length content) = some content := by
  have hn : natAt (s.frameBody k station identity content.length content) 24 2 = content.length := by
    rw [State.frameBody_contentLength, Nat.mod_eq_of_lt hlen]
  have hlong : ¬ (s.frameBody k station identity content.length content).length < 26 + content.length := by
    rw [State.frameBody_length]; omega
  simp [frameContent, htag, hn, hlong, State.frameBody_content]

theorem State.frameKind_frameBody : frameKind (s.frameBody k station identity content.length content) = k.code := by
  simp [frameKind, htag, State.frameBody_kind]

theorem State.frameStation_frameBody (h : station < 256) :
    frameStation (s.frameBody k station identity content.length content) = station := by
  simp [frameStation, htag, State.frameBody_station, Nat.mod_eq_of_lt h]

theorem State.frameIdentity_frameBody :
    frameIdentity (s.frameBody k station identity content.length content) = identity := by
  simp [frameIdentity, htag, State.frameBody_identity]

end Built

/-! ### The filter (R162) -/

theorem State.group_congr {s p : State} (h : p.loader.config = s.loader.config) : p.group = s.group := by
  simp [State.group, h]

theorem State.typeCode_congr {s p : State} (h : p.loader.config = s.loader.config) : p.typeCode = s.typeCode := by
  simp [State.typeCode, h]

/-- A frame of a station passes every test of a station with the same image but the last, which tells the sender (R162). -/
theorem State.filter_buildFrame {s p : State} (k : FrameKind) (station : Nat) {content : List Byte}
    (h1 : s.typeCode < 65536) (h2 : s.typeCode ≠ 0x8100) (h3 : s.typeCode ≠ 0x88A8)
    (hcage : ∀ c, s.loader.config = some c → c.cageNumber < 65536) (hlen : content.length ≤ 9186)
    (hcfg : p.loader.config = s.loader.config) :
    p.filter (s.buildFrame k station s.loader.identity content).bytes false =
      if s.loader.identity = p.loader.identity then .ownEcho else .passed := by
  have htag : tagLength (s.frameBody k station s.loader.identity content.length content) = 0 :=
    State.frameBody_untagged h1 h2 h3
  have hbody := s.frameBody_length k station s.loader.identity content.length content
  have hsound := frameSound_withFcs (bs := s.frameBody k station s.loader.identity content.length content)
    (by rw [hbody]; omega) (by rw [hbody]; omega)
  have hwrong : p.wrongCage (s.frameBody k station s.loader.identity content.length content) = false := by
    unfold State.wrongCage
    rw [hcfg, htag]
    split
    next c hc =>
      simp [State.frameBody_cage, State.cageSent, hc, Nat.mod_eq_of_lt (hcage c hc)]
    · rfl
  unfold State.filter
  simp only [State.buildFrame_eq, withFcs_take, hsound, htag, State.frameBody_group, State.frameBody_type,
    State.frameBody_identity, State.group_congr hcfg, State.typeCode_congr hcfg, hwrong, hbody, Nat.mod_eq_of_lt h1,
    BitVec.toNat_inj, Nat.add_zero]
  simp

/-- At a peer with the same image the frame is queued (R163). -/
theorem segmentFrameReceived_passed {p : State} {bytes : List Byte} {r : RxInFlight} (hrx : p.port.rx = some r)
    (hfilter : p.filter bytes false = .passed) (hroom : p.port.rxQueue.length < 64) :
    segmentFrameReceived bytes false p = { p with
      port := { p.port with
        rx := none,
        rxQueue := p.port.rxQueue ++ [{ bytes := bytes.take (bytes.length - 4), date := r.date, stale := r.stale }],
        counts := { p.port.counts with rxAccepted := bump p.port.counts.rxAccepted } } } := by
  simp [segmentFrameReceived, hrx, hfilter, State.queueFrame, Config.rxLimit, hroom]

theorem segmentFrameReceived_ownEcho {s : State} {bytes : List Byte} {r : RxInFlight} (hrx : s.port.rx = some r)
    (hfilter : s.filter bytes false = .ownEcho) :
    segmentFrameReceived bytes false s = { s with
      port := { s.port with rx := none, counts := { s.port.counts with ownEchoes := bump s.port.counts.ownEchoes } } } := by
  simp [segmentFrameReceived, hrx, hfilter, PortCounts.countFilter]

/-! ### The content of a beacon (section 12.3) -/

/-- An echo entry with its fields in their ranges. -/
def EchoEntry.Fits (e : EchoEntry) : Prop := e.station < 256 ∧ e.t1.Timed ∧ e.t2.Timed

/-- The echo entry that stands at an offset. -/
def echoAt (c : List Byte) (off : Nat) : EchoEntry :=
  { station := natAt c off 1, t1 := timeAt c (off + 2), t2 := timeAt c (off + 12) }

theorem readEchoes_eq (c : List Byte) (n : Nat) : readEchoes c n = (List.range n).map (fun k => echoAt c (24 + 24 * k)) := by
  simp [readEchoes, echoAt, Nat.add_right_comm]

theorem echoAt_append_right (as bs : List Byte) (off : Nat) (h : as.length ≤ off) :
    echoAt (as ++ bs) off = echoAt bs (off - as.length) := by
  simp only [echoAt, natAt_append_right as bs off 1 h, timeAt_append_right as bs (off + 2) (by omega),
    timeAt_append_right as bs (off + 12) (by omega), Nat.sub_add_comm h]

theorem echoAt_encode_append {e : EchoEntry} (h : e.Fits) (bs : List Byte) : echoAt (e.encode ++ bs) 0 = e := by
  obtain ⟨hstation, h1, h2⟩ := h
  have r0 : natAt (e.encode ++ bs) 0 1 = e.station := by
    simp only [EchoEntry.encode, List.append_assoc, natAt_toBE_append]
    exact Nat.mod_eq_of_lt hstation
  have r1 : timeAt (e.encode ++ bs) 2 = e.t1 := by
    simp [EchoEntry.encode, timeAt_append_right, timeAt_timeBytes_append h1]
  have r2 : timeAt (e.encode ++ bs) 12 = e.t2 := by
    simp [EchoEntry.encode, timeAt_append_right, timeAt_timeBytes_append h2]
  rw [echoAt, r0, Nat.zero_add, Nat.zero_add, r1, r2]

/-- Echo entries one after another are read one after another. -/
theorem echoAt_flatMap (es : List EchoEntry) (h : ∀ e ∈ es, e.Fits) :
    (List.range es.length).map (fun k => echoAt (es.flatMap EchoEntry.encode) (24 * k)) = es := by
  induction es with
  | nil => rfl
  | cons e es ih =>
    have htail := ih fun x hx => h x (List.mem_cons_of_mem _ hx)
    have hshift (k : Nat) : echoAt (e.encode ++ es.flatMap EchoEntry.encode) (24 * (k + 1)) =
        echoAt (es.flatMap EchoEntry.encode) (24 * k) := by
      rw [echoAt_append_right _ _ _ (by simp), EchoEntry.encode_length, Nat.mul_succ, Nat.add_sub_cancel]
    rw [List.length_cons, List.range_succ_eq_map, List.map_cons, List.map_map, List.flatMap_cons,
      Nat.mul_zero, echoAt_encode_append (h e List.mem_cons_self)]
    exact congrArg (e :: ·) ((List.map_congr_left fun k _ => hshift k).trans htail)

/-- A beacon with its fields in their ranges. -/
structure Beacon.Fits (b : Beacon) : Prop where
  station : b.station < 256
  state : b.state < 256
  agreement : b.agreement < 256
  anchor : b.anchor < 256
  spread : b.spread < 4294967296
  number : b.number < 4294967296
  count : b.echoes.length ≤ 15
  departure : b.departure.Timed
  echoes : ∀ e ∈ b.echoes, e.Fits

theorem Beacon.encode_length (b : Beacon) : b.encode.length = 24 + 24 * b.echoes.length := by
  have hechoes : (b.echoes.flatMap EchoEntry.encode).length = 24 * b.echoes.length := by
    induction b.echoes with
    | nil => rfl
    | cons e es ih => rw [List.flatMap_cons, List.length_append, ih, EchoEntry.encode_length, List.length_cons]; omega
  simp [Beacon.encode, hechoes]
  omega

/-- The content of a beacon is read back (section 12.3). -/
theorem readBeacon_encode {b : Beacon} (h : b.Fits) {bs : List Byte} (hstation : frameStation bs = b.station)
    (hidentity : frameIdentity bs = b.identity) : readBeacon bs b.encode = some b := by
  have r0 : natAt b.encode 0 1 = b.state := by
    simp only [Beacon.encode, List.append_assoc, natAt_toBE_append]
    exact Nat.mod_eq_of_lt h.state
  have r1 : natAt b.encode 1 1 = b.agreement := by
    simp [Beacon.encode, natAt_append_right, natAt_toBE_append, Nat.mod_eq_of_lt h.agreement]
  have r2 : natAt b.encode 2 1 = b.anchor := by
    simp [Beacon.encode, natAt_append_right, natAt_toBE_append, Nat.mod_eq_of_lt h.anchor]
  have r3 : natAt b.encode 3 1 = b.echoes.length := by
    have := h.count
    simp [Beacon.encode, natAt_append_right, natAt_toBE_append, Nat.mod_eq_of_lt (show b.echoes.length < 256 by omega)]
  have r4 : natAt b.encode 4 4 = b.number := by
    simp [Beacon.encode, natAt_append_right, natAt_toBE_append, Nat.mod_eq_of_lt h.number]
  have r8 : natAt b.encode 8 4 = b.spread := by
    simp [Beacon.encode, natAt_append_right, natAt_toBE_append, toBESat_of_lt (k := 4) h.spread, Nat.mod_eq_of_lt h.spread]
  have r12 : timeAt b.encode 12 = b.departure := by
    simp [Beacon.encode, timeAt_append_right, timeAt_timeBytes_append h.departure]
  have rest (k : Nat) : echoAt b.encode (24 + 24 * k) = echoAt (b.echoes.flatMap EchoEntry.encode) (24 * k) := by
    rw [Beacon.encode, echoAt_append_right _ _ _ (by simp)]
    simp
  have hechoes : readEchoes b.encode b.echoes.length = b.echoes := by
    rw [readEchoes_eq]
    simp only [rest]
    exact echoAt_flatMap _ h.echoes
  have hlen := b.encode_length
  have hcount := h.count
  unfold readBeacon
  rw [r3]
  dsimp only
  rw [if_neg (by omega), r0, r1, r2, r4, r8, r12, hechoes, hstation, hidentity]

/-- Settles O59. -/
theorem beaconsAreReadBack : Obligations.BeaconsAreReadBack := by
  refine ⟨?_, ?_, ?_⟩
  · intro s k station identity content
    cases k <;> rfl
  · intro s p k station content r h1 h2 h3 hcage hlen hcfg hne f
    constructor
    · intro hrx hroom
      rw [exec_eq_effect]
      have hfilter := State.filter_buildFrame k station h1 h2 h3 hcage hlen hcfg
      rw [if_neg (Ne.symm hne)] at hfilter
      exact congrArg _ (segmentFrameReceived_passed hrx hfilter hroom)
    · intro hrx
      rw [exec_eq_effect]
      have hfilter := State.filter_buildFrame (p := s) k station h1 h2 h3 hcage hlen rfl
      rw [if_pos rfl] at hfilter
      exact congrArg _ (segmentFrameReceived_ownEcho hrx hfilter)
  · intro s b h1 h2 h3 hstation hstate hagreement hanchor hspread hnumber hcount htimes hechoes f
    have hfits : b.Fits :=
      ⟨hstation, hstate, hagreement, hanchor, hspread, hnumber, hcount, htimes _ List.mem_cons_self, fun e he =>
        ⟨hechoes e he, htimes _ (List.mem_cons_of_mem _ (List.mem_flatMap.2 ⟨e, he, by simp⟩)),
          htimes _ (List.mem_cons_of_mem _ (List.mem_flatMap.2 ⟨e, he, by simp⟩))⟩⟩
    have hlen := b.encode_length
    have hbody := s.frameBody_length .beacon b.station b.identity b.encode.length b.encode
    have htag : tagLength (s.frameBody .beacon b.station b.identity b.encode.length b.encode) = 0 :=
      State.frameBody_untagged h1 h2 h3
    simp only [f, State.buildFrame_eq, withFcs_take]
    refine ⟨frameSound_withFcs (by omega) (by omega), ?_⟩
    unfold readFrame
    simp only [State.frameContent_frameBody htag (by omega), State.frameKind_frameBody htag, FrameKind.code,
      readBeacon_encode hfits (State.frameStation_frameBody htag hstation) (State.frameIdentity_frameBody htag)]

end Sys2Proof.Machine
end

section
/-! ## Publications read back: the frame record by record, and a record field by field (R132, R140, R165, R197, section 12.4) -/

namespace Sys2Proof.Machine

set_option Elab.async false

/-! ### The fields of each record, in the order of section 12.4 -/

@[simp] theorem displacedBytes_length (w : Option Winner) : (displacedBytes w).length = 12 := by
  cases w <;> simp [displacedBytes]

@[simp] theorem shedDateBytes_length (d : Option (CageTime × CageTime)) : (shedDateBytes d).length = 20 := by
  cases d <;> simp [shedDateBytes]

theorem padTo_eight_length (bs : List Byte) : (padTo 8 bs).length = (bs.length + 7) / 8 * 8 := by
  rw [padTo_length]; omega

theorem Record.encode_arrival (a : ArrivalRec) (payload : List Byte) :
    (Record.arrival a).encode payload =
      toBE 1 1 ++ (toBE 1 a.verdict.code ++ (toBE 2 (64 + (payload.length + 7) / 8 * 8) ++ (toBE 1 (a.feed.getD 0) ++
        (toBE 1 a.flags ++ (toBE 1 a.line.val ++ (toBE 1 a.cause ++ (toBE 8 a.first ++ (toBE 2 a.count ++
        (toBE 2 a.length ++ (toBE 2 a.captured ++ (toBE 2 payload.length ++ (timeBytes a.date ++ (toBE 4 (a.lead.getD 0) ++
        (displacedBytes a.displaced ++ (zeros 14 ++ padTo 8 payload))))))))))))))) := by
  simp only [Record.encode, ArrivalRec.encode, recordHead, roundUp8, List.append_assoc]

theorem Record.encode_yielded (feed first count : Nat) (w : Winner) (line : Nat) (d : CageTime) (payload : List Byte) :
    (Record.yielded feed first count w line d).encode payload =
      toBE 1 2 ++ (toBE 1 0 ++ (toBE 2 48 ++ (toBE 1 feed ++ (toBE 1 w.station ++ (toBE 1 w.line ++ (toBE 1 line ++
        (toBE 8 first ++ (toBE 2 count ++ (zeros 2 ++ (timeBytes w.date ++ (timeBytes d ++ zeros 8))))))))))) := by
  simp only [Record.encode, recordHead, List.append_assoc]

theorem Record.encode_lost (feed first count : Nat) (cause : LossCause) (d : CageTime) (payload : List Byte) :
    (Record.lost feed first count cause d).encode payload =
      toBE 1 3 ++ (toBE 1 cause.code ++ (toBE 2 32 ++ (toBE 1 feed ++ (zeros 3 ++ (toBE 8 first ++ (toBE 4 count ++
        (timeBytes d ++ zeros 2))))))) := by
  simp only [Record.encode, recordHead, List.append_assoc]

theorem Record.encode_summary (feed : Nat) (c : ShedCounts) (payload : List Byte) :
    (Record.summary feed c).encode payload =
      toBE 1 4 ++ (toBE 1 0 ++ (toBE 2 48 ++ (toBE 1 feed ++ (zeros 3 ++ (toBE 4 c.duplicate ++ (toBE 4 c.keepalive ++
        (toBE 4 c.stale ++ (toBE 4 c.stray ++ (shedDateBytes c.dates ++ zeros 4))))))))) := by
  simp only [Record.encode, recordHead, List.append_assoc]

theorem Record.encode_mark (tag : Nat) (target firing : CageTime) (late : Bool) (payload : List Byte) :
    (Record.mark tag target firing late).encode payload =
      toBE 1 5 ++ (toBE 1 (if late then 1 else 0) ++ (toBE 2 32 ++ (toBE 4 tag ++ (timeBytes target ++ (timeBytes firing ++
        zeros 4))))) := by
  simp only [Record.encode, recordHead, List.append_assoc]

/-- The length of an ARRIVAL record by its payload (R140). -/
theorem Record.encode_arrival_length (a : ArrivalRec) (payload : List Byte) :
    ((Record.arrival a).encode payload).length = 64 + (payload.length + 7) / 8 * 8 := by
  simp only [Record.encode_arrival, List.length_append, toBE_length, timeBytes_length, displacedBytes_length, zeros_length,
    padTo_eight_length]
  omega

theorem Record.encode_yielded_length (feed first count : Nat) (w : Winner) (line : Nat) (d : CageTime) (payload : List Byte) :
    ((Record.yielded feed first count w line d).encode payload).length = 48 := by
  simp only [Record.encode_yielded, List.length_append, toBE_length, timeBytes_length, zeros_length]

theorem Record.encode_lost_length (feed first count : Nat) (cause : LossCause) (d : CageTime) (payload : List Byte) :
    ((Record.lost feed first count cause d).encode payload).length = 32 := by
  simp only [Record.encode_lost, List.length_append, toBE_length, timeBytes_length, zeros_length]

theorem Record.encode_summary_length (feed : Nat) (c : ShedCounts) (payload : List Byte) :
    ((Record.summary feed c).encode payload).length = 48 := by
  simp only [Record.encode_summary, List.length_append, toBE_length, shedDateBytes_length, zeros_length]

theorem Record.encode_mark_length (tag : Nat) (target firing : CageTime) (late : Bool) (payload : List Byte) :
    ((Record.mark tag target firing late).encode payload).length = 32 := by
  simp only [Record.encode_mark, List.length_append, toBE_length, timeBytes_length, zeros_length]

/-- The length field of a record. -/
theorem Record.encode_lengthField (r : Record) (payload : List Byte) :
    natAt (r.encode payload) 2 2 = (r.encode payload).length % 65536 := by
  cases r with
  | arrival a =>
    rw [Record.encode_arrival_length]
    simp [Record.encode_arrival, natAt_append_right, natAt_toBE_append]
  | yielded feed first count w line d =>
    rw [Record.encode_yielded_length]
    simp [Record.encode_yielded, natAt_append_right, natAt_toBE_append]
  | lost feed first count cause d =>
    rw [Record.encode_lost_length]
    simp [Record.encode_lost, natAt_append_right, natAt_toBE_append]
  | summary feed c =>
    rw [Record.encode_summary_length]
    simp [Record.encode_summary, natAt_append_right, natAt_toBE_append]
  | mark tag target firing late =>
    rw [Record.encode_mark_length]
    simp [Record.encode_mark, natAt_append_right, natAt_toBE_append]

/-- A record of any payload is at least 32 bytes and a multiple of 8 (R140). -/
theorem Record.encode_length_multiple (r : Record) (payload : List Byte) :
    32 ≤ (r.encode payload).length ∧ (r.encode payload).length % 8 = 0 := by
  cases r with
  | arrival a => rw [Record.encode_arrival_length]; omega
  | yielded feed first count w line d => rw [Record.encode_yielded_length]; decide
  | lost feed first count cause d => rw [Record.encode_lost_length]; decide
  | summary feed c => rw [Record.encode_summary_length]; decide
  | mark tag target firing late => rw [Record.encode_mark_length]; decide

/-! ### The walk over the records of a frame (R197) -/

/-- A record that the walk takes whole: its length field is its length, at least 32 and a multiple of 8. -/
def Walkable (x : List Byte) : Prop := natAt x 2 2 = x.length ∧ 32 ≤ x.length ∧ x.length % 8 = 0

theorem Record.encode_walkable {r : Record} {payload : List Byte} (h : (r.encode payload).length < 65536) :
    Walkable (r.encode payload) :=
  ⟨by rw [Record.encode_lengthField, Nat.mod_eq_of_lt h], r.encode_length_multiple payload⟩

theorem walkRecords_flatten (xs : List (List Byte)) (h : ∀ x ∈ xs, Walkable x) : walkRecords xs.length xs.flatten = xs := by
  induction xs with
  | nil => rfl
  | cons x xs ih =>
    obtain ⟨hfield, h32, h8⟩ := h x List.mem_cons_self
    have hlen : natAt (x ++ xs.flatten) 2 2 = x.length := by rw [natAt_append_of_le _ _ _ _ (by omega), hfield]
    rw [List.length_cons, List.flatten_cons, walkRecords, hlen]
    rw [if_neg (by rw [List.length_append]; omega), List.take_left, List.drop_left,
      ih fun y hy => h y (List.mem_cons_of_mem _ hy)]

/-! ### The records as they are read out (R132, R133) -/

theorem ArrivalRec.heldCells_length_le (a : ArrivalRec) : (Record.arrival a).heldCells.length ≤ a.heldLength := by
  cases h : a.chain <;> simp [Record.heldCells, ArrivalRec.heldLength, Record.chain, h]

/-- The bytes of a record encoded with a payload no longer than the one it was reckoned with (R140). -/
theorem Record.encode_length_le {r : Record} {payload : List Byte} (h : payload.length ≤ r.heldCells.length) :
    (r.encode payload).length ≤ r.encodedLength := by
  cases r with
  | arrival a =>
    have := a.heldCells_length_le
    rw [Record.encode_arrival_length, Record.encodedLength, roundUp8]
    omega
  | yielded feed first count w line d => rw [Record.encode_yielded_length, Record.encodedLength]
  | lost feed first count cause d => rw [Record.encode_lost_length, Record.encodedLength]
  | summary feed c => rw [Record.encode_summary_length, Record.encodedLength]
  | mark tag target firing late => rw [Record.encode_mark_length, Record.encodedLength]

theorem Record.markFaulty_encodedLength (r : Record) : r.markFaulty.encodedLength = r.encodedLength := by cases r <;> rfl

/-- A record is read out as one encoded, in no more bytes than it was reckoned with, faulty or not (R140, R133). -/
theorem Record.readOut_eq_encode (r : Record) (us : List Upset) (k : Nat) :
    ∃ r' payload, r.readOut us k = Record.encode r' payload ∧ (r.readOut us k).length ≤ r.encodedLength := by
  unfold Record.readOut
  split
  · refine ⟨_, _, rfl, ?_⟩
    rw [← r.markFaulty_encodedLength]
    exact Record.encode_length_le (by simp)
  · exact ⟨_, _, rfl, Record.encode_length_le (by simp)⟩

theorem Record.readOut_length_le (r : Record) (us : List Upset) (k : Nat) : (r.readOut us k).length ≤ r.encodedLength := by
  obtain ⟨_, _, -, h⟩ := r.readOut_eq_encode us k
  exact h

theorem Record.readOut_walkable {r : Record} (us : List Upset) (k : Nat) (h : r.encodedLength < 65536) :
    Walkable (r.readOut us k) := by
  obtain ⟨r', payload, e, hlen⟩ := r.readOut_eq_encode us k
  rw [e] at hlen ⊢
  exact Record.encode_walkable (by omega)

/-- The records of a frame as they are placed in it, from the `n`-th on. -/
def readOuts (us : List Upset) (n : Nat) (rs : List Record) : List (List Byte) :=
  (rs.zipIdx n).map (fun x => x.1.readOut us x.2)

theorem readOuts_cons (us : List Upset) (n : Nat) (r : Record) (rs : List Record) :
    readOuts us n (r :: rs) = r.readOut us n :: readOuts us (n + 1) rs := rfl

theorem readOuts_length (us : List Upset) (n : Nat) (rs : List Record) : (readOuts us n rs).length = rs.length := by
  simp [readOuts]

theorem readOuts_flatten_length_le (us : List Upset) (n : Nat) (rs : List Record) :
    (readOuts us n rs).flatten.length ≤ (rs.map Record.encodedLength).sum := by
  induction rs generalizing n with
  | nil => simp [readOuts]
  | cons r rs ih =>
    have hhead := r.readOut_length_le us n
    have htail := ih (n + 1)
    rw [readOuts_cons, List.flatten_cons, List.length_append, List.map_cons, List.sum_cons]
    omega

theorem readOuts_walkable (us : List Upset) (n : Nat) (rs : List Record) (h : (rs.map Record.encodedLength).sum < 65536) :
    ∀ x ∈ readOuts us n rs, Walkable x := by
  induction rs generalizing n with
  | nil => simp [readOuts]
  | cons r rs ih =>
    rw [List.map_cons, List.sum_cons] at h
    rw [readOuts_cons]
    intro x hx
    rcases List.mem_cons.1 hx with rfl | hx
    · exact Record.readOut_walkable us n (by omega)
    · exact ih (n + 1) (by omega) x hx

theorem ReadyFrame.content_eq (f : ReadyFrame) (us : List Upset) : f.content us = f.head ++ (readOuts us 0 f.records).flatten := by
  simp [ReadyFrame.content, readOuts, List.flatMap_def]

@[simp] theorem ReadyFrame.head_length (f : ReadyFrame) : f.head.length = 16 := by simp [ReadyFrame.head]

theorem ReadyFrame.head_number (f : ReadyFrame) : natAt f.head 0 4 = f.number % 4294967296 := by
  simp [ReadyFrame.head, natAt_toBE_append]

theorem ReadyFrame.head_count (f : ReadyFrame) : natAt f.head 5 1 = f.records.length % 256 := by
  simp [ReadyFrame.head, natAt_append_right, natAt_toBE_append]

/-- Of a frame of at most 16 records the walk reads each whole (R165, R197). -/
theorem readRecords_content {f : ReadyFrame} (us : List Upset) (hcount : f.records.length ≤ 16)
    (hsize : (f.records.map Record.encodedLength).sum ≤ 8960) : readRecords (f.content us) = readOuts us 0 f.records := by
  have hn : natAt (f.content us) 5 1 = (readOuts us 0 f.records).length := by
    rw [ReadyFrame.content_eq, natAt_append_of_le _ _ _ _ (by simp), ReadyFrame.head_count, readOuts_length,
      Nat.mod_eq_of_lt (by omega)]
  rw [readRecords, hn, ReadyFrame.content_eq, List.drop_left' f.head_length]
  exact walkRecords_flatten _ (readOuts_walkable us 0 f.records (by omega))

/-- A publication frame passes the frame check and reads as its header and its records. -/
theorem readFrame_publication {s : State} {r : ReadyFrame} (us : List Upset) (h1 : s.typeCode < 65536)
    (h2 : s.typeCode ≠ 0x8100) (h3 : s.typeCode ≠ 0x88A8) (hstation : r.station < 256) (hnumber : r.number < 4294967296)
    (hcount : r.records.length ≤ 16) (hsize : (r.records.map Record.encodedLength).sum ≤ 8960) :
    let f := s.buildFrame .publication r.station r.identity (r.content us)
    frameSound f.bytes false = true ∧
      readFrame (f.bytes.take (f.bytes.length - 4)) =
        .publication r.station r.identity r.number (readOuts us 0 r.records) := by
  have hflat := readOuts_flatten_length_le us 0 r.records
  have hlen : (r.content us).length = 16 + (readOuts us 0 r.records).flatten.length := by
    rw [ReadyFrame.content_eq, List.length_append, ReadyFrame.head_length]
  have hbody := s.frameBody_length .publication r.station r.identity (r.content us).length (r.content us)
  have htag : tagLength (s.frameBody .publication r.station r.identity (r.content us).length (r.content us)) = 0 :=
    State.frameBody_untagged h1 h2 h3
  have hnum : natAt (r.content us) 0 4 = r.number := by
    rw [ReadyFrame.content_eq, natAt_append_of_le _ _ _ _ (by simp), ReadyFrame.head_number, Nat.mod_eq_of_lt hnumber]
  simp only [State.buildFrame_eq, withFcs_take]
  refine ⟨frameSound_withFcs (by omega) (by omega), ?_⟩
  unfold readFrame
  simp only [State.frameContent_frameBody htag (by omega), State.frameKind_frameBody htag, FrameKind.code]
  rw [if_neg (by omega), State.frameStation_frameBody htag hstation, State.frameIdentity_frameBody htag, hnum,
    readRecords_content us hcount hsize]

end Sys2Proof.Machine
end

section
/-! ## A record of each kind, field by field (section 12.4), and what a peer's arbiter makes of it (R104, R105) -/

namespace Sys2Proof.Machine

set_option Elab.async false

/-! ### Codes -/

/-- A name stands at its code in the list of the names of section 12.4, counted from 1. -/
def Named {α : Type} (names : List α) (code : Nat) (name : α) : Prop := 1 ≤ code ∧ names[code - 1]? = some name

/-- The thirteen verdicts in the order of their codes. -/
def verdicts : List Verdict :=
  [.first, .fill, .partialFill, .late, .reset, .takeover, .duplicate, .keepalive, .stale, .wild, .stray, .malformed, .damaged]

theorem Verdict.code_named (v : Verdict) : Named verdicts v.code v ∧ v.code ≤ 13 ∧ (v.isClaim = true ↔ v.code ≤ 6) := by
  unfold Named
  cases v <;> decide

theorem FailCause.code_named (c : FailCause) : Named [.fcs, .short, .long, .codeError] c.code c ∧ c.code < 256 := by
  unfold Named
  cases c <;> decide

theorem MalformedCause.code_named (c : MalformedCause) :
    Named [.badLength, .shortPayload, .rangeOverflow] c.code c ∧ c.code < 256 := by
  unfold Named
  cases c <;> decide

theorem LossCause.code_named (c : LossCause) : Named [.expired, .evicted, .byReset] c.code c ∧ c.code < 256 := by
  unfold Named
  cases c <;> decide

/-! ### An ARRIVAL record -/

section Arrival

variable (a : ArrivalRec) (payload : List Byte)

theorem arrival_kind : natAt ((Record.arrival a).encode payload) 0 1 = 1 := by
  simp [Record.encode_arrival, natAt_toBE_append]

theorem arrival_verdict : natAt ((Record.arrival a).encode payload) 1 1 = a.verdict.code := by
  obtain ⟨-, hcode, -⟩ := a.verdict.code_named
  simp [Record.encode_arrival, natAt_append_right, natAt_toBE_append]
  omega

theorem arrival_feed {a : ArrivalRec} (h : ∀ f, a.feed = some f → f < 256) :
    natAt ((Record.arrival a).encode payload) 4 1 = a.feed.getD 0 := by
  have hfeed : a.feed.getD 0 < 256 := by
    cases e : a.feed with
    | none => simp
    | some f => exact h f e
  simp [Record.encode_arrival, natAt_append_right, natAt_toBE_append, Nat.mod_eq_of_lt hfeed]

theorem ArrivalRec.flags_lt (a : ArrivalRec) : a.flags < 256 := by
  unfold ArrivalRec.flags
  split <;> split <;> split <;> split <;> decide

/-- The flag of an absent feed is the lowest (R197). -/
theorem ArrivalRec.flags_odd (a : ArrivalRec) : a.flags % 2 = 1 ↔ a.feed = none := by
  unfold ArrivalRec.flags
  cases a.feed <;> simp <;> split <;> split <;> split <;> decide

theorem arrival_flags : natAt ((Record.arrival a).encode payload) 5 1 = a.flags := by
  simp [Record.encode_arrival, natAt_append_right, natAt_toBE_append, Nat.mod_eq_of_lt a.flags_lt]

theorem arrival_line : natAt ((Record.arrival a).encode payload) 6 1 = a.line.val := by
  have := a.line.isLt
  simp [Record.encode_arrival, natAt_append_right, natAt_toBE_append]
  omega

theorem ArrivalRec.cause_lt (a : ArrivalRec) : a.cause < 256 := by
  unfold ArrivalRec.cause
  cases a.failCause with
  | some c => exact c.code_named.2
  | none =>
    cases a.malformedCause with
    | some c => exact c.code_named.2
    | none => decide

theorem arrival_cause : natAt ((Record.arrival a).encode payload) 7 1 = a.cause := by
  simp [Record.encode_arrival, natAt_append_right, natAt_toBE_append, Nat.mod_eq_of_lt a.cause_lt]

theorem arrival_first {a : ArrivalRec} (h : a.first < 18446744073709551616) :
    natAt ((Record.arrival a).encode payload) 8 8 = a.first := by
  simp [Record.encode_arrival, natAt_append_right, natAt_toBE_append, Nat.mod_eq_of_lt h]

theorem arrival_count {a : ArrivalRec} (h : a.count < 65536) : natAt ((Record.arrival a).encode payload) 16 2 = a.count := by
  simp [Record.encode_arrival, natAt_append_right, natAt_toBE_append, Nat.mod_eq_of_lt h]

theorem arrival_length {a : ArrivalRec} (h : a.length < 65536) : natAt ((Record.arrival a).encode payload) 18 2 = a.length := by
  simp [Record.encode_arrival, natAt_append_right, natAt_toBE_append, Nat.mod_eq_of_lt h]

theorem arrival_captured {a : ArrivalRec} (h : a.captured < 65536) :
    natAt ((Record.arrival a).encode payload) 20 2 = a.captured := by
  simp [Record.encode_arrival, natAt_append_right, natAt_toBE_append, Nat.mod_eq_of_lt h]

theorem arrival_payloadLength {payload : List Byte} (h : payload.length < 65536) :
    natAt ((Record.arrival a).encode payload) 22 2 = payload.length := by
  simp [Record.encode_arrival, natAt_append_right, natAt_toBE_append, Nat.mod_eq_of_lt h]

theorem arrival_date {a : ArrivalRec} (h : a.date.Timed) : timeAt ((Record.arrival a).encode payload) 24 = a.date := by
  simp [Record.encode_arrival, timeAt_append_right, timeAt_timeBytes_append h]

theorem arrival_lead {a : ArrivalRec} {n : Nat} (hn : a.lead = some n) (h : n < 4294967296) :
    natAt ((Record.arrival a).encode payload) 34 4 = n := by
  simp [Record.encode_arrival, hn, natAt_append_right, natAt_toBE_append, Nat.mod_eq_of_lt h]

theorem arrival_no_lead {a : ArrivalRec} (hn : a.lead = none) :
    slice ((Record.arrival a).encode payload) 34 4 = List.replicate 4 0 := by
  simp [Record.encode_arrival, hn, slice_append_right, toBE_zero, slice_zeros_append, -List.reduceReplicate]

theorem arrival_displaced {a : ArrivalRec} {w : Winner} (hw : a.displaced = some w) (hstation : w.station < 256)
    (hline : w.line < 256) (hdate : w.date.Timed) :
    natAt ((Record.arrival a).encode payload) 38 1 = w.station ∧ natAt ((Record.arrival a).encode payload) 39 1 = w.line ∧
      timeAt ((Record.arrival a).encode payload) 40 = w.date := by
  refine ⟨?_, ?_, ?_⟩
  · simp [Record.encode_arrival, hw, displacedBytes, natAt_append_right, natAt_toBE_append, Nat.mod_eq_of_lt hstation]
  · simp [Record.encode_arrival, hw, displacedBytes, natAt_append_right, natAt_toBE_append, Nat.mod_eq_of_lt hline]
  · simp [Record.encode_arrival, hw, displacedBytes, timeAt_append_right, timeAt_timeBytes_append hdate]

theorem arrival_no_displaced {a : ArrivalRec} (hw : a.displaced = none) :
    slice ((Record.arrival a).encode payload) 38 12 = List.replicate 12 0 := by
  simp [Record.encode_arrival, hw, displacedBytes, slice_append_right, slice_zeros_append, -List.reduceReplicate]

theorem arrival_zeros : slice ((Record.arrival a).encode payload) 50 14 = List.replicate 14 0 := by
  simp [Record.encode_arrival, slice_append_right, slice_zeros_append, -List.reduceReplicate]

/-- From the 64th byte on stands the payload, padded (R140). -/
theorem arrival_slice_payload (off n : Nat) :
    slice ((Record.arrival a).encode payload) (64 + off) n = slice (padTo 8 payload) off n := by
  have h64 : ∃ fields : List Byte, fields.length = 64 ∧ (Record.arrival a).encode payload = fields ++ padTo 8 payload := by
    refine ⟨((Record.arrival a).encode payload).take 64, ?_, ?_⟩
    · rw [List.length_take, Record.encode_arrival_length]; omega
    · conv_lhs => rw [← List.take_append_drop 64 ((Record.arrival a).encode payload)]
      congr 1
      simp [Record.encode_arrival, List.drop_append, List.drop_eq_nil_of_le]
  obtain ⟨fields, hlen, e⟩ := h64
  rw [e, slice_append_right _ _ _ _ (by omega), hlen, Nat.add_sub_cancel_left]

theorem arrival_payload : slice ((Record.arrival a).encode payload) 64 payload.length = payload := by
  have h := arrival_slice_payload a payload 0 payload.length
  rw [Nat.add_zero] at h
  rw [h, padTo, slice_append_left _ _ _ rfl]

theorem arrival_padding :
    slice ((Record.arrival a).encode payload) (64 + payload.length) ((payload.length + 7) / 8 * 8 - payload.length) =
      List.replicate ((payload.length + 7) / 8 * 8 - payload.length) 0 := by
  rw [arrival_slice_payload, padTo, slice_append_right _ _ _ _ (le_refl _), Nat.sub_self,
    show (8 - payload.length % 8) % 8 = (payload.length + 7) / 8 * 8 - payload.length by omega, slice_zeros]

/-- The feed that a peer's arbiter reads (R104). -/
theorem arrival_recordFeed {a : ArrivalRec} (h : ∀ f, a.feed = some f → f < 256) :
    recordFeed ((Record.arrival a).encode payload) = a.feed := by
  unfold recordFeed recordKind
  rw [arrival_kind, arrival_flags, arrival_feed payload h]
  cases e : a.feed with
  | none => rw [if_pos (a.flags_odd.2 e)]; rfl
  | some f => rw [if_neg (fun ho => by simp [a.flags_odd.1 ho] at e)]; rfl

/-- A sound ARRIVAL record is not refused; the count and the overflow are tested for the claim verdicts alone (R104, log 22). -/
theorem arrival_not_refused {a : ArrivalRec} {payload : List Byte} (q : Nat) (hlen : payload.length ≤ 1536) (hdate : a.date.Timed)
    (hfirst : a.first < 18446744073709551616) (hcount : a.count < 65536)
    (hclaim : a.verdict.isClaim = true → 1 ≤ a.count ∧ a.first + a.count ≤ 18446744073709551616) :
    refusedRecord ((Record.arrival a).encode payload) q = false := by
  obtain ⟨⟨hcode1, -⟩, hcode13, hcode6⟩ := a.verdict.code_named
  have hline := a.line.isLt
  have hfield : natAt ((Record.arrival a).encode payload) 2 2 = 64 + (payload.length + 7) / 8 * 8 := by
    rw [Record.encode_lengthField, Record.encode_arrival_length, Nat.mod_eq_of_lt (by omega)]
  have hbad : badArrival ((Record.arrival a).encode payload) = false := by
    simp only [badArrival, recordCode, isClaimCode, recordOverflows, arrival_verdict, arrival_line, arrival_date payload hdate,
      hdate.valid, arrival_count payload hcount, arrival_first payload hfirst, Bool.or_eq_false_iff, decide_eq_false_iff_not,
      Bool.not_true, Bool.and_eq_false_imp, Bool.and_eq_true, decide_eq_true_eq]
    refine ⟨⟨⟨⟨by omega, by omega⟩, by omega⟩, trivial⟩, fun ⟨_, h6⟩ => ?_⟩
    have := hclaim (hcode6.2 h6)
    omega
  have hexpected : expectedLength ((Record.arrival a).encode payload) = some (64 + (payload.length + 7) / 8 * 8) := by
    simp [expectedLength, recordKind, arrival_kind, arrival_payloadLength a (show payload.length < 65536 by omega), roundUp8]
  simp [refusedRecord, hexpected, recordLength, hfield, recordKind, arrival_kind, hbad]

end Arrival

/-! ### A YIELD record -/

section Yielded

variable {feed first count : Nat} {w : Winner} {line : Nat} {d : CageTime}

theorem yielded_head : natAt ((Record.yielded feed first count w line d).encode []) 0 1 = 2 ∧
    slice ((Record.yielded feed first count w line d).encode []) 1 1 = List.replicate 1 0 := by
  constructor
  · simp [Record.encode_yielded, natAt_toBE_append]
  · simp [Record.encode_yielded, slice_append_right, toBE_zero, slice_zeros_append, -List.reduceReplicate]

theorem yielded_feed (h : feed < 256) : natAt ((Record.yielded feed first count w line d).encode []) 4 1 = feed := by
  simp [Record.encode_yielded, natAt_append_right, natAt_toBE_append, Nat.mod_eq_of_lt h]

theorem yielded_station (h : w.station < 256) :
    natAt ((Record.yielded feed first count w line d).encode []) 5 1 = w.station := by
  simp [Record.encode_yielded, natAt_append_right, natAt_toBE_append, Nat.mod_eq_of_lt h]

theorem yielded_winnerLine (h : w.line < 256) : natAt ((Record.yielded feed first count w line d).encode []) 6 1 = w.line := by
  simp [Record.encode_yielded, natAt_append_right, natAt_toBE_append, Nat.mod_eq_of_lt h]

theorem yielded_formerLine (h : line < 256) : natAt ((Record.yielded feed first count w line d).encode []) 7 1 = line := by
  simp [Record.encode_yielded, natAt_append_right, natAt_toBE_append, Nat.mod_eq_of_lt h]

theorem yielded_first (h : first < 18446744073709551616) :
    natAt ((Record.yielded feed first count w line d).encode []) 8 8 = first := by
  simp [Record.encode_yielded, natAt_append_right, natAt_toBE_append, Nat.mod_eq_of_lt h]

theorem yielded_count (h : count < 65536) : natAt ((Record.yielded feed first count w line d).encode []) 16 2 = count := by
  simp [Record.encode_yielded, natAt_append_right, natAt_toBE_append, Nat.mod_eq_of_lt h]

theorem yielded_zeros : slice ((Record.yielded feed first count w line d).encode []) 18 2 = List.replicate 2 0 ∧
    slice ((Record.yielded feed first count w line d).encode []) 40 8 = List.replicate 8 0 := by
  constructor
  · simp [Record.encode_yielded, slice_append_right, slice_zeros_append, -List.reduceReplicate]
  · simp [Record.encode_yielded, slice_append_right, slice_zeros, -List.reduceReplicate]

theorem yielded_winnerDate (h : w.date.Timed) : timeAt ((Record.yielded feed first count w line d).encode []) 20 = w.date := by
  simp [Record.encode_yielded, timeAt_append_right, timeAt_timeBytes_append h]

theorem yielded_formerDate (h : d.Timed) : timeAt ((Record.yielded feed first count w line d).encode []) 30 = d := by
  simp [Record.encode_yielded, timeAt_append_right, timeAt_timeBytes_append h]

/-- A sound YIELD is refused only when it names the publishing station (R104). -/
theorem yielded_refused_iff (q : Nat) (hcount1 : 1 ≤ count) (hcount : count < 65536)
    (hrange : first + count ≤ 18446744073709551616) (hstation : w.station ≤ 15) (hwline : w.line ≤ 7) (hwdate : w.date.Timed)
    (hline : line ≤ 7) (hdate : d.Timed) :
    refusedRecord ((Record.yielded feed first count w line d).encode []) q = true ↔ w.station = q := by
  have hfield : natAt ((Record.yielded feed first count w line d).encode []) 2 2 = 48 := by
    rw [Record.encode_lengthField, Record.encode_yielded_length]
  have hbad : badYield ((Record.yielded feed first count w line d).encode []) q = decide (w.station = q) := by
    have e1 : ¬ 15 < w.station := by omega
    have e2 : ¬ 7 < w.line := by omega
    have e3 : ¬ 7 < line := by omega
    have e4 : count ≠ 0 := by omega
    have e5 : ¬ 18446744073709551616 < first + count := by omega
    simp [badYield, recordOverflows, yielded_station (show w.station < 256 by omega), yielded_winnerLine (show w.line < 256 by omega),
      yielded_formerLine (show line < 256 by omega), yielded_winnerDate hwdate, yielded_formerDate hdate, hwdate.valid,
      hdate.valid, yielded_count hcount, yielded_first (show first < 18446744073709551616 by omega), e1, e2, e3, e4, e5]
  simp [refusedRecord, expectedLength, recordKind, recordLength, yielded_head.1, hfield, hbad]

end Yielded

/-! ### A LOST record -/

section Lost

variable {feed first count : Nat} {cause : LossCause} {d : CageTime}

theorem lost_kind : natAt ((Record.lost feed first count cause d).encode []) 0 1 = 3 := by
  simp [Record.encode_lost, natAt_toBE_append]

theorem lost_cause : natAt ((Record.lost feed first count cause d).encode []) 1 1 = cause.code := by
  simp [Record.encode_lost, natAt_append_right, natAt_toBE_append, Nat.mod_eq_of_lt cause.code_named.2]

theorem lost_feed (h : feed < 256) : natAt ((Record.lost feed first count cause d).encode []) 4 1 = feed := by
  simp [Record.encode_lost, natAt_append_right, natAt_toBE_append, Nat.mod_eq_of_lt h]

theorem lost_first (h : first < 18446744073709551616) : natAt ((Record.lost feed first count cause d).encode []) 8 8 = first := by
  simp [Record.encode_lost, natAt_append_right, natAt_toBE_append, Nat.mod_eq_of_lt h]

theorem lost_count (h : count < 4294967296) : natAt ((Record.lost feed first count cause d).encode []) 16 4 = count := by
  simp [Record.encode_lost, natAt_append_right, natAt_toBE_append, Nat.mod_eq_of_lt h]

theorem lost_reading (h : d.Timed) : timeAt ((Record.lost feed first count cause d).encode []) 20 = d := by
  simp [Record.encode_lost, timeAt_append_right, timeAt_timeBytes_append h]

theorem lost_zeros : slice ((Record.lost feed first count cause d).encode []) 5 3 = List.replicate 3 0 ∧
    slice ((Record.lost feed first count cause d).encode []) 30 2 = List.replicate 2 0 := by
  constructor
  · simp [Record.encode_lost, slice_append_right, slice_zeros_append, -List.reduceReplicate]
  · simp [Record.encode_lost, slice_append_right, slice_zeros, -List.reduceReplicate]

theorem lost_not_refused (q : Nat) (h : d.Timed) : refusedRecord ((Record.lost feed first count cause d).encode []) q = false := by
  have hfield : natAt ((Record.lost feed first count cause d).encode []) 2 2 = 32 := by
    rw [Record.encode_lengthField, Record.encode_lost_length]
  simp [refusedRecord, expectedLength, recordKind, recordLength, lost_kind, hfield, lost_reading h, h.valid]

end Lost

/-! ### A SUMMARY record -/

section Summary

variable {feed : Nat} {c : ShedCounts}

theorem summary_head : natAt ((Record.summary feed c).encode []) 0 1 = 4 ∧
    slice ((Record.summary feed c).encode []) 1 1 = List.replicate 1 0 := by
  constructor
  · simp [Record.encode_summary, natAt_toBE_append]
  · simp [Record.encode_summary, slice_append_right, toBE_zero, slice_zeros_append, -List.reduceReplicate]

theorem summary_feed (h : feed < 256) : natAt ((Record.summary feed c).encode []) 4 1 = feed := by
  simp [Record.encode_summary, natAt_append_right, natAt_toBE_append, Nat.mod_eq_of_lt h]

theorem summary_duplicate (h : c.duplicate < 4294967296) : natAt ((Record.summary feed c).encode []) 8 4 = c.duplicate := by
  simp [Record.encode_summary, natAt_append_right, natAt_toBE_append, Nat.mod_eq_of_lt h]

theorem summary_keepalive (h : c.keepalive < 4294967296) : natAt ((Record.summary feed c).encode []) 12 4 = c.keepalive := by
  simp [Record.encode_summary, natAt_append_right, natAt_toBE_append, Nat.mod_eq_of_lt h]

theorem summary_stale (h : c.stale < 4294967296) : natAt ((Record.summary feed c).encode []) 16 4 = c.stale := by
  simp [Record.encode_summary, natAt_append_right, natAt_toBE_append, Nat.mod_eq_of_lt h]

theorem summary_stray (h : c.stray < 4294967296) : natAt ((Record.summary feed c).encode []) 20 4 = c.stray := by
  simp [Record.encode_summary, natAt_append_right, natAt_toBE_append, Nat.mod_eq_of_lt h]

theorem summary_dates {p : CageTime × CageTime} (hp : c.dates = some p) (h : p.1.Timed ∧ p.2.Timed) :
    timeAt ((Record.summary feed c).encode []) 24 = p.1 ∧ timeAt ((Record.summary feed c).encode []) 34 = p.2 := by
  constructor
  · simp [Record.encode_summary, hp, shedDateBytes, timeAt_append_right, timeAt_timeBytes_append h.1]
  · simp [Record.encode_summary, hp, shedDateBytes, timeAt_append_right, timeAt_timeBytes_append h.2]

theorem summary_no_dates (hp : c.dates = none) : slice ((Record.summary feed c).encode []) 24 20 = List.replicate 20 0 := by
  simp [Record.encode_summary, hp, shedDateBytes, slice_append_right, slice_zeros_append, -List.reduceReplicate]

theorem summary_zeros : slice ((Record.summary feed c).encode []) 5 3 = List.replicate 3 0 ∧
    slice ((Record.summary feed c).encode []) 44 4 = List.replicate 4 0 := by
  constructor
  · simp [Record.encode_summary, slice_append_right, slice_zeros_append, -List.reduceReplicate]
  · simp [Record.encode_summary, slice_append_right, slice_zeros, -List.reduceReplicate]

/-- The dates of a SUMMARY are valid, those of one without dates being zero (R196). -/
theorem summary_dates_valid (h : ∀ p, c.dates = some p → p.1.Timed ∧ p.2.Timed) :
    (timeAt ((Record.summary feed c).encode []) 24).valid = true ∧ (timeAt ((Record.summary feed c).encode []) 34).valid = true := by
  cases hp : c.dates with
  | some p =>
    obtain ⟨e1, e2⟩ := summary_dates (feed := feed) hp (h p hp)
    rw [e1, e2]
    exact ⟨(h p hp).1.valid, (h p hp).2.valid⟩
  | none =>
    have hzero : zeros 20 = timeBytes {} ++ timeBytes {} := by decide
    have htimed : ({} : CageTime).Timed := by unfold CageTime.Timed; decide
    constructor
    · simp [Record.encode_summary, hp, shedDateBytes, hzero, timeAt_append_right, timeAt_timeBytes_append htimed, htimed.valid]
    · simp [Record.encode_summary, hp, shedDateBytes, hzero, timeAt_append_right, timeAt_timeBytes_append htimed, htimed.valid]

theorem summary_not_refused (q : Nat) (h : ∀ p, c.dates = some p → p.1.Timed ∧ p.2.Timed) :
    refusedRecord ((Record.summary feed c).encode []) q = false := by
  have hfield : natAt ((Record.summary feed c).encode []) 2 2 = 48 := by
    rw [Record.encode_lengthField, Record.encode_summary_length]
  obtain ⟨h1, h2⟩ := summary_dates_valid (feed := feed) h
  simp [refusedRecord, expectedLength, recordKind, recordLength, summary_head.1, hfield, h1, h2]

end Summary

/-! ### A MARK record -/

section Mark

variable {tag : Nat} {target firing : CageTime} {late : Bool}

theorem mark_kind : natAt ((Record.mark tag target firing late).encode []) 0 1 = 5 := by
  simp [Record.encode_mark, natAt_toBE_append]

theorem mark_late : natAt ((Record.mark tag target firing late).encode []) 1 1 = if late = true then 1 else 0 := by
  cases late <;> simp [Record.encode_mark, natAt_append_right, natAt_toBE_append]

theorem mark_tag (h : tag < 4294967296) : natAt ((Record.mark tag target firing late).encode []) 4 4 = tag := by
  simp [Record.encode_mark, natAt_append_right, natAt_toBE_append, Nat.mod_eq_of_lt h]

theorem mark_target (h : target.Timed) : timeAt ((Record.mark tag target firing late).encode []) 8 = target := by
  simp [Record.encode_mark, timeAt_append_right, timeAt_timeBytes_append h]

theorem mark_firing (h : firing.Timed) : timeAt ((Record.mark tag target firing late).encode []) 18 = firing := by
  simp [Record.encode_mark, timeAt_append_right, timeAt_timeBytes_append h]

theorem mark_zeros : slice ((Record.mark tag target firing late).encode []) 28 4 = List.replicate 4 0 := by
  simp [Record.encode_mark, slice_append_right, slice_zeros, -List.reduceReplicate]

theorem mark_not_refused (q : Nat) (htarget : target.Timed) (hfiring : firing.Timed) :
    refusedRecord ((Record.mark tag target firing late).encode []) q = false := by
  have hfield : natAt ((Record.mark tag target firing late).encode []) 2 2 = 32 := by
    rw [Record.encode_lengthField, Record.encode_mark_length]
  simp [refusedRecord, expectedLength, recordKind, recordLength, mark_kind, hfield, mark_target htarget, mark_firing hfiring,
    htarget.valid, hfiring.valid]

end Mark

end Sys2Proof.Machine
end

section
/-! ## Publications are read back -/

namespace Sys2Proof.Machine

set_option Elab.async false

theorem Record.encode_lengthField_of_lt {r : Record} {payload : List Byte} (h : (r.encode payload).length < 65536) :
    natAt (r.encode payload) 2 2 = (r.encode payload).length := by
  rw [Record.encode_lengthField, Nat.mod_eq_of_lt h]

theorem ArrivalRec.cause_of_fail {a : ArrivalRec} {c : FailCause} (h : a.failCause = some c) : a.cause = c.code := by
  simp [ArrivalRec.cause, h]

theorem ArrivalRec.cause_of_malformed {a : ArrivalRec} {c : MalformedCause} (hf : a.failCause = none)
    (h : a.malformedCause = some c) : a.cause = c.code := by
  simp [ArrivalRec.cause, hf, h]

theorem ArrivalRec.cause_of_none {a : ArrivalRec} (hf : a.failCause = none) (h : a.malformedCause = none) : a.cause = 0 := by
  simp [ArrivalRec.cause, hf, h]

/-- Settles O60: numbers and times in bytes, the frame record by record, and each kind of record field by field. -/
theorem publicationsAreReadBack : Obligations.PublicationsAreReadBack := by
  refine ⟨?_, ?_, ?_⟩
  · intro bs off k n
    refine ⟨rfl, rfl, ?_, fun b hb => natAt_succ hb, rfl, Nat.mod_lt _ (by decide), Nat.div_add_mod' _ 4⟩
    simp [natAt, slice, fromBE]
  · intro s r us h1 h2 h3 hstation hnumber hcount hsize
    exact readFrame_publication us h1 h2 h3 hstation hnumber hcount hsize
  intro timed zero named fails malformed losses bit
  refine ⟨?_, ?_, ?_, ?_, ?_⟩
  · intro a payload q hlen hdate hfeed hfirst hcount hclaim x codes
    have hx : x.length = 64 + (payload.length + 7) / 8 * 8 := Record.encode_arrival_length a payload
    refine ⟨arrival_kind a payload, ?_, Record.encode_lengthField_of_lt (hx ▸ by omega), hx, arrival_feed payload hfeed,
      ?_, arrival_line a payload, ?_, ?_, ?_, arrival_first payload hfirst, arrival_count payload hcount,
      arrival_length payload, arrival_captured payload, arrival_payloadLength a (by omega), arrival_date payload hdate,
      fun n hn h => arrival_lead payload hn h, arrival_no_lead payload, fun w hw h1 h2 h3 => arrival_displaced payload hw h1 h2 h3,
      arrival_no_displaced payload, arrival_zeros a payload, arrival_payload a payload, arrival_padding a payload,
      arrival_recordFeed payload hfeed, ?_, arrival_not_refused q hlen hdate hfirst hcount hclaim⟩
    · rw [arrival_verdict]; exact a.verdict.code_named.1
    · rw [arrival_flags]; rfl
    · intro c hc
      rw [arrival_cause, ArrivalRec.cause_of_fail hc]; exact c.code_named.1
    · intro c hf hc
      rw [arrival_cause, ArrivalRec.cause_of_malformed hf hc]; exact c.code_named.1
    · intro hf hc
      rw [arrival_cause, ArrivalRec.cause_of_none hf hc]
    · rw [claimWinner, arrival_line, arrival_date payload hdate]
  · intro feed first count w line d q hfeed hcount1 hcount hrange hstation hwline hwdate hline hdate x
    have hx : x.length = 48 := Record.encode_yielded_length ..
    refine ⟨yielded_head.1, yielded_head.2, Record.encode_lengthField_of_lt (hx ▸ by omega), hx, yielded_feed hfeed,
      yielded_station (by omega), yielded_winnerLine (by omega), yielded_formerLine (by omega), yielded_first (by omega),
      yielded_count hcount, yielded_zeros.1, yielded_winnerDate hwdate, yielded_formerDate hdate, yielded_zeros.2, ?_, ?_,
      yielded_refused_iff q hcount1 hcount hrange hstation hwline hwdate hline hdate⟩
    · simp only [x, recordFeed, recordKind, yielded_head.1, yielded_feed hfeed]
    · rw [yieldWinner, yielded_station (by omega), yielded_winnerLine (by omega), yielded_winnerDate hwdate]
  · intro feed first count cause d q hfeed hdate hfirst hcount x
    have hx : x.length = 32 := Record.encode_lost_length ..
    refine ⟨lost_kind, ?_, Record.encode_lengthField_of_lt (hx ▸ by omega), hx, lost_feed hfeed, lost_zeros.1,
      lost_first hfirst, lost_count hcount, lost_reading hdate, lost_zeros.2, ?_, lost_not_refused q hdate⟩
    · rw [lost_cause]; exact cause.code_named.1
    · simp only [x, recordFeed, recordKind, lost_kind, lost_feed hfeed]
  · intro feed c q hdates x
    have hx : x.length = 48 := Record.encode_summary_length ..
    refine ⟨summary_head.1, summary_head.2, Record.encode_lengthField_of_lt (hx ▸ by omega), hx, summary_feed, summary_zeros.1,
      summary_duplicate, summary_keepalive, summary_stale, summary_stray, fun p hp => summary_dates hp (hdates p hp),
      summary_no_dates, summary_zeros.2, ?_, summary_not_refused q hdates⟩
    simp only [x, recordFeed, recordKind, summary_head.1]
  · intro tag target firing late q htarget hfiring x
    have hx : x.length = 32 := Record.encode_mark_length ..
    refine ⟨mark_kind, mark_late, Record.encode_lengthField_of_lt (hx ▸ by omega), hx, mark_tag, mark_target htarget,
      mark_firing hfiring, mark_zeros, ?_, mark_not_refused q htarget hfiring⟩
    simp only [x, recordFeed, recordKind, mark_kind]

end Sys2Proof.Machine
end

section
/-! ## The local tick, a step and a seconds write at their boundary (R16, R17, R19, R20, R22, R23, R36, R45, R53, R178) -/

namespace Sys2Proof.Machine

set_option Elab.async false

/-! ### The local tick (R16, R17, R19, R20) -/

/-- The accumulator after a tick: it carries into the seconds where a whole second of units is reached (R17). -/
theorem Accum.advance_eq (a : Accum) (incr : Nat) :
    a.advance incr = if a.units + incr < 4294967296000000000 then { sec := a.sec, units := a.units + incr }
      else { sec := (a.sec + 1) % 281474976710656, units := a.units + incr - 4294967296000000000 } := rfl

/-- Settles O18: the clock's advance, its accumulator by the carry. -/
theorem localTickAdvances : Obligations.LocalTickAdvances := by
  intro s k incr units r
  have hacc := k.acc.advance_eq k.incr
  rw [exec_eq_effect, effect, localTick, Clock.advance, hacc]
  rfl

/-! ### Raising SPREAD -/

/-- SPREAD is raised for the class SPREAD alone (R51, R181). -/
theorem ReqHandler.raiseIf_spread (r : ReqHandler) (cls : AgreementState) :
    r.raiseIf (decide (cls = .spread)) .spread = if cls = .spread then r.raise .spread else r := by
  simp only [ReqHandler.raiseIf, decide_eq_true_eq]

theorem State.enterServing_eq (s : State) (cls : AgreementState) :
    s.enterServing cls = { s with
      loader := { s.loader with state := .serving }, agr := { s.agr with agreement := cls, servingAfterStep := none },
      req := if cls = .spread then s.req.raise .spread else s.req } := by
  rw [State.enterServing, ReqHandler.raiseIf_spread]

/-! ### A step (R22, R36, R45, R53) -/

/-- The station once its clock has been stepped by `c` quarter ns and the samples have gone. -/
def State.stepped (s : State) (c : Int) : State := { s with clock := s.clock.applyStep c }.discardSamples

theorem clockStep_of_none {s : State} (h : s.clock.pendingStep = none) : clockStep s = s := by
  simp only [clockStep, h]

theorem clockStep_of_early {s : State} {c : Int} (h : s.clock.pendingStep = some { correction := c, due := false }) :
    clockStep s = s := by
  simp [clockStep, h]

/-- A step that no class waits for (log 10). -/
theorem clockStep_stays {s : State} {c : Int} (h : s.clock.pendingStep = some { correction := c, due := true })
    (hcls : s.agr.servingAfterStep = none) : clockStep s = s.stepped c := by
  simp [clockStep, h, hcls, State.stepped]

/-- The step of ACQUIRE: the station enters SERVING after it (R53). -/
theorem clockStep_enters {s : State} {c : Int} (h : s.clock.pendingStep = some { correction := c, due := true })
    {cls : AgreementState} (hcls : s.agr.servingAfterStep = some cls) : clockStep s = (s.stepped c).enterServing cls := by
  simp [clockStep, h, hcls, State.stepped]

/-- Settles O19: by whether the step is due, and by whether a class waits for it. -/
theorem stepMovesCageTime : Obligations.StepMovesCageTime := by
  constructor
  · intro s hs
    rw [exec_eq_effect, effect]
    rcases hs with h | ⟨c, h⟩
    · rw [clockStep_of_none h]
    · rw [clockStep_of_early h]
  · intro s c h total clock agr port
    rw [exec_eq_effect, effect]
    constructor
    · intro hcls
      rw [clockStep_stays h hcls]
      rfl
    · intro cls hcls
      rw [clockStep_enters h hcls, State.enterServing_eq]
      rfl

/-! ### A seconds write (R23, R45, R178) -/

/-- No step falls on the latest boundary: none has been applied there and none waits with its boundary come (R23). -/
theorem Clock.stepFalls_eq_false_iff (c : Clock) :
    c.stepFalls = false ↔ c.move.step = none ∧ c.pendingStep.map PendingStep.due ≠ some true := by
  unfold Clock.stepFalls
  split <;> simp [*]

/-- The Station Clock's test by the station state (R23, R178). -/
theorem secondsAccepted_iff (s : State) (v : Nat) :
    secondsAccepted s v = true ↔ s.clock.stepFalls = false ∧ (s.loader.state = .listen ∨ s.loader.state = .acquire ∨
      (s.loader.state = .serving ∧ s.agr.agreement = .alone ∧ s.clock.acc.sec < v)) := by
  unfold secondsAccepted
  split <;> simp [*, and_assoc]

/-- The request at the head answered into a queue with room (R170, R172). -/
theorem ReqHandler.finish_of_room {r : ReqHandler} {q : Request} {rest : List Request} (hq : r.queue = q :: rest)
    (hroom : r.responses.length < 4) (res : Result) (data : List Byte) :
    r.finish res data = { r with
      queue := rest, parts := [], responses := r.responses ++ [q.answer res data],
      counts := { r.counts with
        wrongState := if res = Result.wrongState then bump r.counts.wrongState else r.counts.wrongState,
        badArgument := if res = Result.badArgument then bump r.counts.badArgument else r.counts.badArgument } } := by
  simp [ReqHandler.finish, hq, ReqHandler.respond, Config.responseLimit, hroom]

theorem secondsWrite_accepted {s : State} {v : Nat} (h : s.clock.pendingSeconds = some { value := v, due := true })
    (hok : secondsAccepted s v = true) : secondsWrite s =
      { ({ s with clock := s.clock.applySeconds v } : State).discardSamples with
        req := ({ s.req with latch := true } : ReqHandler).finish .ok (toBE 6 s.clock.acc.sec ++ toBE 6 v) } := by
  simp [secondsWrite, h, hok, State.discardSamples]

theorem secondsWrite_refused {s : State} {v : Nat} (h : s.clock.pendingSeconds = some { value := v, due := true })
    (hno : secondsAccepted s v = false) : secondsWrite s =
      { s with clock := { s.clock with pendingSeconds := none }, req := s.req.finish .wrongState [] } := by
  simp [secondsWrite, h, hno]

/-- Settles O20: the clock's test is the decision of the statement, and the answer goes into a queue with room. -/
theorem secondsWriteDecides : Obligations.SecondsWriteDecides := by
  intro s v q rest hv hq hroom free ok difference answer
  have htest : secondsAccepted s v = true ↔ ok := by
    rw [secondsAccepted_iff, Clock.stepFalls_eq_false_iff]
  rw [exec_eq_effect, effect]
  constructor
  · intro hok
    have hanswer := ReqHandler.finish_of_room (r := { s.req with latch := true }) hq hroom .ok
      (toBE 6 s.clock.acc.sec ++ toBE 6 v)
    rw [secondsWrite_accepted hv (htest.2 hok), hanswer]
    rfl
  · intro hno
    have hanswer := ReqHandler.finish_of_room hq hroom .wrongState []
    rw [secondsWrite_refused hv (by simpa using fun h => hno (htest.1 h)), hanswer]
    rfl

end Sys2Proof.Machine
end

section
/-! ## The pulse and the anchor (R22, R23, R25, R29 to R32) -/

namespace Sys2Proof.Machine

set_option Elab.async false

/-! ### The end of a pulse window, by the anchor state (R30 to R32) -/

section Window

variable {a : Anchor}

theorem Anchor.windowFailed_of_seeking (h : a.state = .seeking) : a.windowFailed = { a with goodRun := 0 } := by
  simp only [Anchor.windowFailed, h]

theorem Anchor.windowFailed_of_few (h : a.state = .locked) (hrun : a.failedRun + 1 < 3) :
    a.windowFailed = { a with failedRun := a.failedRun + 1 } := by
  simp only [Anchor.windowFailed, h, ge_iff_le, if_neg (Nat.not_le.2 hrun)]

theorem Anchor.windowFailed_of_third (h : a.state = .locked) (hrun : 3 ≤ a.failedRun + 1) :
    a.windowFailed = { a with failedRun := a.failedRun + 1, state := .lost, correction := none } := by
  simp only [Anchor.windowFailed, h, ge_iff_le, if_pos hrun]

theorem Anchor.windowFailed_of_lost (h : a.state = .lost) : a.windowFailed = a := by
  simp only [Anchor.windowFailed, h]

theorem Anchor.goodPulse_of_few (h : a.state = .seeking) (hrun : a.goodRun + 1 < 4) (e : Int) :
    a.goodPulse e = { a with goodRun := a.goodRun + 1 } := by
  simp only [Anchor.goodPulse, h, ge_iff_le, if_neg (Nat.not_le.2 hrun)]

theorem Anchor.goodPulse_of_fourth (h : a.state = .seeking) (hrun : 4 ≤ a.goodRun + 1) (e : Int) :
    a.goodPulse e = { a with state := .locked, goodRun := 0, failedRun := 0, correction := some (-e) } := by
  simp only [Anchor.goodPulse, h, ge_iff_le, if_pos hrun]

theorem Anchor.goodPulse_of_locked (h : a.state = .locked) (e : Int) :
    a.goodPulse e = { a with failedRun := 0, correction := some (-e) } := by
  simp only [Anchor.goodPulse, h]

theorem Anchor.goodPulse_of_lost (h : a.state = .lost) (e : Int) :
    a.goodPulse e = { a with state := .seeking, goodRun := 1 } := by
  simp only [Anchor.goodPulse, h]

end Window

/-! ### A pulse taken (R29) -/

/-- The anchor once a pulse of date `d` is taken and counted, its window restarted. -/
def Anchor.taken (a : Anchor) (d : CageTime) (now : Nat) : Anchor :=
  { a with latest := some d, seen := true, pulses := bump a.pulses, window := some (now + 275000000) }

theorem Anchor.pulse_of_good {captureUs : Nat} {d : CageTime} (h : (pulseError d).natAbs ≤ captureUs * 4000) (a : Anchor)
    (now : Nat) : a.pulse captureUs d now = (a.taken d now).goodPulse (pulseError d) :=
  if_pos (decide_eq_true h)

theorem Anchor.pulse_of_bad {captureUs : Nat} {d : CageTime} (h : captureUs * 4000 < (pulseError d).natAbs) (a : Anchor)
    (now : Nat) : a.pulse captureUs d now =
      ({ a.taken d now with bad := bump a.bad, failed := bump a.failed } : Anchor).windowFailed :=
  if_neg (by simpa [pulseGood] using h)

/-! ### The station with a new anchor -/

/-- The station with its anchor and its Request Handler replaced. -/
def State.setAnchor (s : State) (b : Anchor) (r : ReqHandler) : State :=
  { s with clock := { s.clock with anchor := b }, req := r }

/-- The station whose anchor becomes `b`: ANCHOR_LOST is raised when the anchor enters LOST (R31). -/
def State.withAnchor (s : State) (b : Anchor) : State :=
  s.setAnchor b (s.req.raiseIf (decide (b.state = .lost) && decide (s.clock.anchor.state ≠ .lost)) .anchorLost)

theorem State.withAnchor_of_not_lost (s : State) {b : Anchor} (h : b.state ≠ .lost) : s.withAnchor b = s.setAnchor b s.req := by
  simp [State.withAnchor, ReqHandler.raiseIf, h]

theorem State.withAnchor_of_lost_before {s : State} (h : s.clock.anchor.state = .lost) (b : Anchor) :
    s.withAnchor b = s.setAnchor b s.req := by
  simp [State.withAnchor, ReqHandler.raiseIf, h]

theorem State.withAnchor_of_entering {s : State} {b : Anchor} (hb : b.state = .lost) (hs : s.clock.anchor.state ≠ .lost) :
    s.withAnchor b = s.setAnchor b (s.req.raise .anchorLost) := by
  simp [State.withAnchor, ReqHandler.raiseIf, hb, hs]

/-- The station after a window that failed, by the anchor state (R30, R31): `b` is the anchor with the failure counted. -/
theorem State.withAnchor_windowFailed (s : State) {b : Anchor} (hstate : b.state = s.clock.anchor.state) :
    (b.state = .seeking → s.withAnchor b.windowFailed = s.setAnchor { b with goodRun := 0 } s.req) ∧
    (b.state = .locked → b.failedRun + 1 < 3 →
      s.withAnchor b.windowFailed = s.setAnchor { b with failedRun := b.failedRun + 1 } s.req) ∧
    (b.state = .locked → 3 ≤ b.failedRun + 1 → s.withAnchor b.windowFailed =
      s.setAnchor { b with failedRun := b.failedRun + 1, state := .lost, correction := none } (s.req.raise .anchorLost)) ∧
    (b.state = .lost → s.withAnchor b.windowFailed = s.setAnchor b s.req) := by
  refine ⟨fun h => ?_, fun h hrun => ?_, fun h hrun => ?_, fun h => ?_⟩
  · rw [Anchor.windowFailed_of_seeking h, State.withAnchor_of_not_lost s (by simp [h])]
  · rw [Anchor.windowFailed_of_few h hrun, State.withAnchor_of_not_lost s (by simp [h])]
  · rw [Anchor.windowFailed_of_third h hrun, State.withAnchor_of_entering rfl (by simp [← hstate, h])]
  · rw [Anchor.windowFailed_of_lost h, State.withAnchor_of_lost_before (hstate ▸ h)]

/-- The station after a good pulse of error `e`, by the anchor state (R31, R32): `b` is the anchor with the pulse taken. -/
theorem State.withAnchor_goodPulse (s : State) (b : Anchor) (e : Int) :
    (b.state = .seeking → b.goodRun + 1 < 4 →
      s.withAnchor (b.goodPulse e) = s.setAnchor { b with goodRun := b.goodRun + 1 } s.req) ∧
    (b.state = .seeking → 4 ≤ b.goodRun + 1 → s.withAnchor (b.goodPulse e) =
      s.setAnchor { b with state := .locked, goodRun := 0, failedRun := 0, correction := some (-e) } s.req) ∧
    (b.state = .locked →
      s.withAnchor (b.goodPulse e) = s.setAnchor { b with failedRun := 0, correction := some (-e) } s.req) ∧
    (b.state = .lost → s.withAnchor (b.goodPulse e) = s.setAnchor { b with state := .seeking, goodRun := 1 } s.req) := by
  refine ⟨fun h hrun => ?_, fun h hrun => ?_, fun h => ?_, fun h => ?_⟩
  · rw [Anchor.goodPulse_of_few h hrun, State.withAnchor_of_not_lost s (by simp [h])]
  · rw [Anchor.goodPulse_of_fourth h hrun, State.withAnchor_of_not_lost s (by simp)]
  · rw [Anchor.goodPulse_of_locked h, State.withAnchor_of_not_lost s (by simp [h])]
  · rw [Anchor.goodPulse_of_lost h, State.withAnchor_of_not_lost s (by simp)]

theorem pulse_of_disabled {s : State} (h : s.clock.anchor.state = .none) (ago : Nat) (phase : Fin 16) : pulse ago phase s = s :=
  if_pos h

theorem pulse_of_undated {s : State} {ago : Nat} {phase : Fin 16} (h : s.clock.pulseDate ago phase = none) :
    pulse ago phase s = s := by
  simp [pulse, h]

theorem pulse_of_dated {s : State} {ago : Nat} {phase : Fin 16} {d : CageTime} (hs : s.clock.anchor.state ≠ .none)
    (h : s.clock.pulseDate ago phase = some d) :
    pulse ago phase s = s.withAnchor (s.clock.anchor.pulse s.captureUs d s.clock.tick) := by
  simp only [pulse, hs, h, if_false, State.withAnchor, State.setAnchor]

theorem pulseWindowExpiry_of_early {s : State} {w : Nat} (hw : s.clock.anchor.window = some w) (h : s.clock.tick < w) :
    pulseWindowExpiry s = s :=
  if_neg (by simpa [due, hw] using h)

theorem pulseWindowExpiry_of_due {s : State} {w : Nat} (hw : s.clock.anchor.window = some w) (h : w ≤ s.clock.tick) :
    pulseWindowExpiry s = s.withAnchor ({ s.clock.anchor with
      failed := bump s.clock.anchor.failed, window := some (s.clock.tick + 275000000) } : Anchor).windowFailed :=
  if_pos (by simpa [due, hw] using h)

/-- Settles O21: the date is the model's, and each case is the anchor's by its state. -/
theorem pulsesAndWindows : Obligations.PulsesAndWindows := by
  refine ⟨fun n p s h => ?_, ?_, ?_⟩
  · rw [exec_eq_effect, effect, pulse_of_disabled h]
  · intro n p s cfg hcfg hs a moved since date
    have hdate : date = s.clock.pulseDate n p := by cases n <;> rfl
    have hcapture : s.captureUs = cfg.captureUs := by simp only [State.captureUs, hcfg]
    refine ⟨fun h => ?_, ?_⟩
    · rw [exec_eq_effect, effect, pulse_of_undated (hdate ▸ h)]
    intro d hd q e taken bad after
    have hafter : ∀ b r, s.withAnchor (a.pulse cfg.captureUs d s.clock.tick) = s.setAnchor b r → after b r := by
      intro b r h
      rw [← hcapture, ← pulse_of_dated hs (hdate ▸ hd)] at h
      exact congrArg _ h
    constructor
    · intro hgood
      obtain ⟨hfew, hfourth, hlocked, hlost⟩ := s.withAnchor_goodPulse taken e
      rw [Anchor.pulse_of_good (d := d) hgood] at hafter
      exact ⟨fun h hrun => hafter _ _ (hfew h hrun), fun h hrun => hafter _ _ (hfourth h hrun),
        fun h => hafter _ _ (hlocked h), fun h => hafter _ _ (hlost h)⟩
    · intro hbad
      obtain ⟨hseeking, hfew, hthird, hlost⟩ := s.withAnchor_windowFailed (b := bad) rfl
      rw [Anchor.pulse_of_bad (d := d) hbad] at hafter
      exact ⟨fun h => hafter _ _ (hseeking h), fun h hrun => hafter _ _ (hfew h hrun),
        fun h hrun => hafter _ _ (hthird h hrun), fun h => hafter _ _ (hlost h)⟩
  · intro s w hw a ended after
    refine ⟨fun h => ?_, fun h => ?_⟩
    · rw [exec_eq_effect, effect, pulseWindowExpiry_of_early hw h]
    have hafter : ∀ b r, s.withAnchor ended.windowFailed = s.setAnchor b r → after b r := by
      intro b r h'
      exact congrArg _ ((pulseWindowExpiry_of_due hw h).trans h')
    obtain ⟨hseeking, hfew, hthird, hlost⟩ := s.withAnchor_windowFailed (b := ended) rfl
    exact ⟨fun h => hafter _ _ (hseeking h), fun h hrun => hafter _ _ (hfew h hrun),
      fun h hrun => hafter _ _ (hthird h hrun), fun h => hafter _ _ (hlost h)⟩

end Sys2Proof.Machine
end

section
/-! ## The end of a round, by the station state (R32, R47, R51 to R54) -/

namespace Sys2Proof.Machine

set_option Elab.async false

/-! ### The values of the image in force -/

section Image

variable {s : State} {cfg : ImageCfg}

theorem State.beaconMs_of_image (h : s.loader.config = some cfg) : s.beaconMs = cfg.beaconMs := by
  simp only [State.beaconMs, h]

theorem State.beaconTicks_of_image (h : s.loader.config = some cfg) : s.beaconTicks = cfg.beaconMs * 250000 := by
  rw [State.beaconTicks, State.beaconMs_of_image h, Config.ticksPerMs]

theorem State.maxSlew_of_image (h : s.loader.config = some cfg) : s.maxSlew = cfg.maxSlew := by
  simp only [State.maxSlew, h]

end Image

/-! ### The round end -/

section Due

variable {s : State} {d : Nat} (htimer : s.agr.roundTimer = some d) (hdue : d ≤ s.clock.tick)

include htimer hdue

theorem roundEnd_in_listen (h : s.loader.state = .listen) : roundEnd s = (s.storeRound s.round).roundInListen := by
  simp [roundEnd, due, htimer, hdue, h]

theorem roundEnd_in_acquire (h : s.loader.state = .acquire) :
    roundEnd s = (s.storeRound s.round).roundInAcquire (s.acquireStep s.round) s.round.cls := by
  simp [roundEnd, due, htimer, hdue, h]

theorem roundEnd_in_serving (h : s.loader.state = .serving) : roundEnd s = (s.storeRound s.round).roundInServing s.round := by
  simp [roundEnd, due, htimer, hdue, h]

end Due

/-- A round end in LISTEN counts the round, and the third gives ACQUIRE (R52). -/
theorem State.roundInListen_eq {s : State} (h : s.loader.state = .listen) :
    s.roundInListen = { s with
      agr := { s.agr with roundCount := s.agr.roundCount + 1 },
      loader := { s.loader with state := if 3 ≤ s.agr.roundCount + 1 then .acquire else .listen } } := by
  unfold State.roundInListen
  split
  · rfl
  · rw [← h]

/-- A round end in SERVING steers the rate terms and takes the round's class (R51, R54). -/
theorem State.roundInServing_eq (s : State) (r : Round) :
    s.roundInServing r = { s with
      clock := s.clock.steer r.correction s.beaconMs s.maxSlew, agr := { s.agr with agreement := r.cls },
      req := if r.cls = .spread then s.req.raise .spread else s.req } := by
  rw [State.roundInServing, ReqHandler.raiseIf_spread]

/-- Settles O27: by the station state, and in ACQUIRE by whether the round asks for a step. -/
theorem roundEndByState : Obligations.RoundEndByState := by
  constructor
  · intro s cfg h
    exact ⟨State.beaconMs_of_image h, State.beaconTicks_of_image h, State.maxSlew_of_image h⟩
  · intro s d htimer hdue r agr clock ppb
    rw [exec_eq_effect, effect]
    refine ⟨fun h => ?_, fun h c hc => ?_, fun h hc => ?_, fun h => ?_⟩
    · rw [roundEnd_in_listen htimer hdue h, State.roundInListen_eq (s := s.storeRound s.round) h]
      rfl
    · rw [roundEnd_in_acquire htimer hdue h, hc]
      rfl
    · rw [roundEnd_in_acquire htimer hdue h, hc, State.roundInAcquire, State.enterServing_eq]
      rfl
    · rw [roundEnd_in_serving htimer hdue h, State.roundInServing_eq]
      rfl

end Sys2Proof.Machine
end

section
/-! ## Readings and dates, and their order within one stay in SERVING (R22, R24 to R26, R28) -/

namespace Sys2Proof.Machine

set_option Elab.async false

/-! ### A cage time as a count of quarter nanoseconds -/

theorem CageTime.quarters_eq (d : CageTime) : d.quarters = d.sec * 4000000000 + d.ns * 4 + d.quarter := rfl

theorem CageTime.ofQuarters_timed (q : Int) : (CageTime.ofQuarters q).Timed := by
  simp only [CageTime.Timed, CageTime.ofQuarters, Config.quartersPerSec, Config.secondsModulus]
  omega

/-- Below zero a count gives time zero (R22, R26). -/
theorem CageTime.ofQuarters_of_nonpos {q : Int} (h : q ≤ 0) : CageTime.ofQuarters q = { sec := 0, ns := 0, quarter := 0 } := by
  simp [CageTime.ofQuarters, Int.toNat_of_nonpos h]

/-- A count not below zero is that of its cage time, the wraps of the seconds apart. -/
theorem CageTime.ofQuarters_quarters {q : Int} (h : 0 ≤ q) :
    ((CageTime.ofQuarters q).quarters : Int) + q / 1125899906842624000000000 * 1125899906842624000000000 = q := by
  simp only [CageTime.quarters_eq, CageTime.ofQuarters, Config.quartersPerSec, Config.secondsModulus]
  omega

/-- Below the wrap the count is that of its cage time. -/
theorem CageTime.ofQuarters_quarters_of_lt {q : Int} (h : q < 1125899906842624000000000) :
    ((CageTime.ofQuarters q).quarters : Int) = max q 0 := by
  simp only [CageTime.quarters_eq, CageTime.ofQuarters, Config.quartersPerSec, Config.secondsModulus]
  omega

/-- Of two times in range the comparison is that of their counts (R79, R151). -/
theorem CageTime.before_eq_false {a b : CageTime} (ha : a.Timed) (hb : b.Timed) (h : b.quarters ≤ a.quarters) :
    a.before b = false := by
  obtain ⟨-, hans, haq⟩ := ha
  obtain ⟨-, hbns, hbq⟩ := hb
  simp only [CageTime.quarters_eq] at h
  simp only [CageTime.before, Bool.or_eq_false_iff, Bool.and_eq_false_iff, decide_eq_false_iff_not]
  omega

/-! ### A reading (R24) -/

/-- The quarters of a reading's second are the accumulator's whole ones. -/
theorem Accum.reading_quarters (a : Accum) :
    (a.reading.ns * 4 + a.reading.quarter) * 1073741824 ≤ a.units ∧
      a.units < (a.reading.ns * 4 + a.reading.quarter + 1) * 1073741824 := by
  simp only [Accum.reading, Config.unitsPerQuarter]
  omega

theorem Accum.reading_fields {a : Accum} (h : a.units < 4294967296000000000) :
    a.reading.sec = a.sec ∧ a.reading.ns < 1000000000 ∧ a.reading.quarter < 4 := by
  refine ⟨rfl, ?_⟩
  simp only [Accum.reading, Config.unitsPerQuarter]
  omega

/-! ### A date (R25, R26) -/

/-- The whole of an accumulator in units of 2^-32 ns. -/
def Accum.total (a : Accum) : Nat := a.sec * 4294967296000000000 + a.units

/-- The raw date of an instant of the present tick less the trim, in sixteenths of a unit (R25, R26). -/
def Clock.rawDate (k : Clock) (p : Fin 16) (trim : Nat) : Int :=
  ((k.acc.total * 16 + p.val * k.incr : Nat) : Int) - trim * 17179869184

/-- A date is the raw date rounded to the nearest quarter, a half to the later (R26). -/
theorem Clock.date_eq (k : Clock) (p : Fin 16) (trim : Nat) :
    k.date p trim = CageTime.ofQuarters ((k.rawDate p trim + 8589934592) / 17179869184) := rfl

theorem Clock.date_timed (k : Clock) (p : Fin 16) (trim : Nat) : (k.date p trim).Timed := CageTime.ofQuarters_timed _

/-- The increment in force is less than a second. -/
theorem Clock.rawDate_lt {k : Clock} (h : k.InRange) (hsec : k.acc.sec < 281474976710655) (p : Fin 16) (trim : Nat) :
    k.rawDate p trim + 8589934592 < 1125899906842624000000000 * 17179869184 := by
  have hincr : k.incr ≤ 4294967296000000000 := Clock.incr_le h
  obtain ⟨-, -, hunits, -⟩ := h
  have hunits : k.acc.units < 4294967296000000000 := hunits
  have hphase : p.val * k.incr ≤ 15 * k.incr := Nat.mul_le_mul_right _ (by omega)
  simp only [Clock.rawDate, Accum.total]
  omega

/-- While the seconds are not about to wrap, a date's count is that of the rounded raw date, zero below zero. -/
theorem Clock.date_quarters {k : Clock} (h : k.InRange) (hsec : k.acc.sec < 281474976710655) (p : Fin 16) (trim : Nat) :
    ((k.date p trim).quarters : Int) = max ((k.rawDate p trim + 8589934592) / 17179869184) 0 := by
  have := Clock.rawDate_lt h hsec p trim
  rw [Clock.date_eq, CageTime.ofQuarters_quarters_of_lt (by omega)]

/-! ### The clock from one instant to a later one, within one stay in SERVING (R28) -/

/-- `d` is a later clock than `c`, or the same tick of it: either at least one tick has ended between them, or the tick and its
increment are the same and cage time has not gone back. -/
def Clock.Reaches (c d : Clock) : Prop :=
  c.acc.total + c.incr ≤ d.acc.total ∨ (d.tick = c.tick ∧ d.incr = c.incr ∧ c.acc.total ≤ d.acc.total)

theorem Clock.Reaches.refl (c : Clock) : c.Reaches c := .inr ⟨rfl, rfl, le_refl _⟩

theorem Clock.Reaches.trans {c d e : Clock} (h : c.Reaches d) (k : d.Reaches e) : c.Reaches e := by
  unfold Clock.Reaches at *
  omega

/-- A clock with the same tick, cage time and adjust. -/
theorem Clock.Reaches.of_eq {c d : Clock} (htick : d.tick = c.tick) (hacc : d.acc = c.acc) (hadj : d.adj = c.adj) :
    c.Reaches d :=
  .inr ⟨htick, by rw [Clock.incr, Clock.incr, hadj], by rw [hacc]⟩

/-- A tick that does not wrap the seconds moves cage time by the increment (R17). -/
theorem Accum.advance_total {a : Accum} (incr : Nat) (h : a.sec < 281474976710655) :
    (a.advance incr).total = a.total + incr := by
  rw [Accum.advance_eq]
  split
  · simp only [Accum.total]; omega
  · simp only [Accum.total]; omega

theorem Clock.Reaches.advance {c : Clock} (h : c.acc.sec < 281474976710655) : c.Reaches c.advance :=
  .inl (Accum.advance_total c.incr h).ge

/-- An accepted seconds write in SERVING moves cage time forward (R23). -/
theorem Clock.Reaches.applySeconds {c : Clock} {v : Nat} (h : c.acc.sec < v) : c.Reaches (c.applySeconds v) :=
  .inr ⟨rfl, rfl, by simp only [Clock.applySeconds, Accum.total]; omega⟩

/-- What a stay in SERVING keeps from `s` to `t`: no step is asked for, the image is the same, and the clock goes forward. -/
structure State.Serves (s t : State) : Prop where
  pendingStep : s.clock.pendingStep = none → t.clock.pendingStep = none
  config : t.loader.config = s.loader.config
  clock : s.clock.Reaches t.clock

theorem State.Serves.refl (s : State) : s.Serves s := ⟨id, rfl, .refl _⟩

theorem State.Serves.trans {s t u : State} (h : s.Serves t) (k : t.Serves u) : s.Serves u :=
  ⟨k.pendingStep ∘ h.pendingStep, k.config.trans h.config, h.clock.trans k.clock⟩

/-- A command that leaves the image, the tick, cage time, the adjust and the step asked for. -/
theorem State.Serves.of_eq {s t : State} (hcfg : t.loader.config = s.loader.config)
    (hstep : t.clock.pendingStep = s.clock.pendingStep) (htick : t.clock.tick = s.clock.tick)
    (hacc : t.clock.acc = s.clock.acc) (hadj : t.clock.adj = s.clock.adj) : s.Serves t :=
  ⟨hstep.trans, hcfg, .of_eq htick hacc hadj⟩

theorem State.Serves.of_same {s t : State} (hcfg : t.loader = s.loader) (hclock : t.clock = s.clock) : s.Serves t :=
  .of_eq (by rw [hcfg]) (by rw [hclock]) (by rw [hclock]) (by rw [hclock]) (by rw [hclock])

theorem secondsWrite_serves {s : State} (hs : s.loader.state = .serving) : s.Serves (secondsWrite s) := by
  unfold secondsWrite
  split
  · exact .refl s
  next p hp =>
    split
    · split
      next hok =>
        obtain ⟨-, h | h | ⟨-, -, hlt⟩⟩ := (secondsAccepted_iff s p.value).1 hok
        · cases hs.symm.trans h
        · cases hs.symm.trans h
        · exact ⟨id, rfl, .applySeconds hlt⟩
      · exact .of_eq rfl rfl rfl rfl rfl
    · exact .refl s

theorem roundEnd_serves {s : State} (hs : s.loader.state = .serving) : s.Serves (roundEnd s) := by
  unfold roundEnd
  rw [hs]
  split
  · exact .of_eq rfl rfl rfl rfl rfl
  · exact .refl s

theorem setSecondsRequest_serves (s : State) : s.Serves (setSecondsRequest s) := by
  unfold setSecondsRequest
  rcases s.carryOut_cases 5 _ with e | e | ⟨q, -, -, -, e⟩ <;> rw [e]
  · exact .refl s
  · exact .of_same rfl rfl
  · repeat' split
    all_goals exact .of_eq rfl rfl rfl rfl rfl

theorem State.clearCounts_serves (s : State) (b : Block) : s.Serves (s.clearCounts b) := by
  cases b <;> exact .of_eq rfl rfl rfl rfl rfl

/-- Every command that leaves a station in SERVING, from SERVING with no step asked for and the seconds not about to wrap. -/
theorem effect_serves (c : Instr) {s : State} (hs : s.loader.state = .serving) (ht : (effect c s).loader.state = .serving)
    (hstep : s.clock.pendingStep = none) (hsec : s.clock.acc.sec < 281474976710655) : s.Serves (effect c s) := by
  by_cases hc : (touched c).loader = false ∧ (touched c).clock = false
  · exact .of_same ((effect_sameBut c s).loader hc.1) ((effect_sameBut c s).clock hc.2)
  cases c
  case powerOn straps => cases ht
  case pulse ago phase =>
    show s.Serves (pulse ago phase s)
    unfold pulse
    repeat' split
    all_goals exact .of_eq rfl rfl rfl rfl rfl
  case pulseWindowExpiry =>
    show s.Serves (pulseWindowExpiry s)
    unfold pulseWindowExpiry
    split <;> exact .of_eq rfl rfl rfl rfl rfl
  case clockStep =>
    show s.Serves (clockStep s)
    rw [clockStep_of_none hstep]
    exact .refl s
  case secondsWrite => exact secondsWrite_serves hs
  case beaconTaken =>
    rcases beaconTaken_cases s with e | e
    · exact .of_same (e.loader rfl) (e.clock rfl)
    · rw [effect, e, State.enterConflict_loader] at ht
      cases ht
  case roundEnd => exact roundEnd_serves hs
  case dispatch straps =>
    rcases dispatch_cases straps s with e | ⟨-, port, req, e⟩
    · exact .of_same (e.loader rfl) (e.clock rfl)
    · rw [effect, e, State.restart_loader] at ht
      cases ht
  case clearCounts part =>
    show s.Serves (clearCountsRequest part s)
    rcases clearCountsRequest_cases part s with ⟨b, e⟩ | e
    · rw [e]; exact (s.clearCounts_serves b).trans (.of_same rfl rfl)
    · exact .of_same (e.loader rfl) (e.clock rfl)
  case setSeconds => exact setSecondsRequest_serves s
  case imageReadDone flash =>
    show s.Serves (imageReadDone flash s)
    unfold imageReadDone
    rw [if_neg (by simp [hs])]
    exact .refl s
  case localTick => exact ⟨fun h => by simp [effect, localTick, Clock.advance, h], rfl, .advance hsec⟩
  all_goals exact absurd ⟨rfl, rfl⟩ hc

/-! ### A run of steps -/

/-- What one step can do: idle, or carry out a command on the state less that command. -/
theorem step_cases {s t : State} (h : step s = .next t) : t = s ∨ ∃ c cs, t = effect c (s.withPending cs) := by
  unfold step at h
  split at h
  · cases h; exact .inl rfl
  next c cs _ =>
    rw [exec_eq_effect] at h
    cases h
    exact .inr ⟨c, cs, rfl⟩

theorem step_serves {s t : State} (h : step s = .next t) (hs : s.loader.state = .serving) (ht : t.loader.state = .serving)
    (hstep : s.clock.pendingStep = none) (hsec : s.clock.acc.sec < 281474976710655) : s.Serves t := by
  rcases step_cases h with rfl | ⟨c, cs, rfl⟩
  · exact .refl _
  · have hpending : s.Serves (s.withPending cs) := .of_same rfl rfl
    exact hpending.trans (effect_serves c hs ht hstep hsec)

theorem step_keeps_clock {s t : State} (h : step s = .next t) (hs : s.clock.InRange) : t.clock.InRange :=
  step_keeps (P := fun s => s.clock.InRange) (fun _ _ h => h) effect_keeps_clock h hs

section Run

variable {f : Nat → State} (hrun : ∀ n, step (f n) = .next (f (n + 1)))
  (hserving : ∀ n, (f n).loader.state = .serving ∧ (f n).clock.acc.sec < 281474976710655)

include hrun

theorem run_inRange (h : (f 0).clock.InRange) (n : Nat) : (f n).clock.InRange := by
  induction n with
  | zero => exact h
  | succ n ih => exact step_keeps_clock (hrun n) ih

include hserving

theorem run_serves_add {j : Nat} (h : (f j).clock.pendingStep = none) (n : Nat) : (f j).Serves (f (j + n)) := by
  induction n with
  | zero => exact .refl _
  | succ n ih =>
    exact ih.trans (step_serves (hrun _) (hserving _).1 (hserving _).1 (ih.pendingStep h) (hserving _).2)

theorem run_serves (h : (f 0).clock.pendingStep = none) {j k : Nat} (hjk : j ≤ k) : (f j).Serves (f k) := by
  obtain ⟨n, rfl⟩ := Nat.exists_eq_add_of_le hjk
  have hj := run_serves_add hrun hserving h j
  rw [Nat.zero_add] at hj
  exact run_serves_add hrun hserving (hj.pendingStep h) n

end Run

/-- Raw dates do not fall: a phase is less than a whole tick, and within a tick the phases are in order. -/
theorem Clock.Reaches.rawDate_le {c d : Clock} (h : c.Reaches d) {p q : Fin 16} (hpq : c.tick = d.tick → p ≤ q) (trim : Nat) :
    c.rawDate p trim ≤ d.rawDate q trim := by
  simp only [Clock.rawDate]
  rcases h with h | ⟨htick, hincr, h⟩
  · have hphase : p.val * c.incr ≤ 16 * c.incr := Nat.mul_le_mul_right _ (by omega)
    omega
  · have hphase : p.val * c.incr ≤ q.val * d.incr := hincr ▸ Nat.mul_le_mul_right _ (hpq htick.symm)
    omega

/-- Dates do not fall (R28). -/
theorem Clock.Reaches.date_not_before {c d : Clock} (h : c.Reaches d) (hc : c.InRange) (hcsec : c.acc.sec < 281474976710655)
    (hd : d.InRange) (hdsec : d.acc.sec < 281474976710655) {p q : Fin 16} (hpq : c.tick = d.tick → p ≤ q) (trim : Nat) :
    (d.date q trim).before (c.date p trim) = false := by
  refine CageTime.before_eq_false (d.date_timed q trim) (c.date_timed p trim) ?_
  have hraw := h.rawDate_le hpq trim
  have hdate := Clock.date_quarters hc hcsec p trim
  have hdate' := Clock.date_quarters hd hdsec q trim
  omega

/-- Settles O30: the counts of quarters, a reading, a date, and the dates of a run. -/
theorem datesAreFormedAndOrdered : Obligations.DatesAreFormedAndOrdered := by
  refine ⟨CageTime.quarters_eq, fun q => ⟨CageTime.ofQuarters_of_nonpos, fun h => ?_⟩, fun k h => ?_, ?_, ?_⟩
  · obtain ⟨hsec, hns, hquarter⟩ := CageTime.ofQuarters_timed q
    exact ⟨_, _, rfl, hsec, hns, hquarter, CageTime.ofQuarters_quarters h⟩
  · obtain ⟨-, -, hunits, -⟩ := h
    obtain ⟨hsec, hns, hquarter⟩ := Accum.reading_fields hunits
    exact ⟨hsec, hns, hquarter, k.acc.reading_quarters⟩
  · intro k p trim h hsec raw d q
    obtain ⟨-, hns, hquarter⟩ : d.Timed := k.date_timed p trim
    have hd : d = CageTime.ofQuarters ((raw + 8589934592) / 17179869184) := k.date_eq p trim
    have hq : q = max ((raw + 8589934592) / 17179869184) 0 := Clock.date_quarters h hsec p trim
    clear_value raw d q
    refine ⟨hns, hquarter, fun hlow => by omega, fun hlow => ?_⟩
    rw [hd, CageTime.ofQuarters_of_nonpos (by omega)]
  · intro f hrun hserving hrange hstep i j k p q hjk hpq d e
    have hserves := run_serves hrun hserving hstep hjk
    have htrim : (f k).lineCfg i = (f j).lineCfg i := by simp only [State.lineCfg, hserves.config]
    have horder := hserves.clock.date_not_before (run_inRange hrun hrange j) (hserving j).2 (run_inRange hrun hrange k)
      (hserving k).2 hpq ((f j).lineCfg i).trim
    simp only [e, htrim]
    exact horder

end Sys2Proof.Machine
end

section
/-! ## Segment frames dated, filtered and queued (R27, R161 to R163) -/

namespace Sys2Proof.Machine

set_option Elab.async false

theorem segmentStart_of_idle {s : State} (hlink : s.port.link = .up) (hrx : s.port.rx = none) (phase : Fin 16) :
    segmentStart phase s = { s with port := { s.port with rx := some { date := s.clock.date phase 0 } } } :=
  if_pos ⟨hlink, hrx⟩

/-! ### The tests of the filter, each in the words of R162 -/

theorem frameSound_iff (bytes : List Byte) (codeError : Bool) :
    frameSound bytes codeError = true ↔ codeError = false ∧ 64 ≤ bytes.length ∧ bytes.length ≤ 9216 ∧
      bytes.drop (bytes.length - 4) = fcsBytes (crc32 (bytes.take (bytes.length - 4))) := by
  simp [frameSound, and_assoc]

theorem State.wrongCage_eq_false_iff (s : State) (bs : List Byte) :
    s.wrongCage bs = false ↔ ∀ c, s.loader.config = some c → natAt bs (16 + tagLength bs) 2 = c.cageNumber := by
  unfold State.wrongCage
  split <;> simp [*]

/-- The frame is addressed to the cage group or to the station. -/
def State.addressedBy (s : State) (bs : List Byte) : Prop :=
  natAt bs 0 6 = s.group.toNat ∨ natAt bs 0 6 = s.loader.identity.toNat

/-! ### The first test that a frame fails (R162) -/

section Filter

variable {s : State} {bytes : List Byte} {codeError : Bool}

theorem State.filter_damaged (h : frameSound bytes codeError = false) : s.filter bytes codeError = .damaged := by
  simp [State.filter, h]

variable (hsound : frameSound bytes codeError = true) {bs : List Byte} (hbs : bytes.take (bytes.length - 4) = bs)

include hsound hbs

theorem State.filter_notAddressed (h : ¬ s.addressedBy bs) : s.filter bytes codeError = .notAddressed := by
  simp [State.filter, hsound, hbs, not_or.1 h]

/-- Of a sound frame addressed to the station the filter tests the type, the length, the cage and the sender, in this order. -/
theorem State.filter_of_addressed (haddr : s.addressedBy bs) :
    s.filter bytes codeError =
      if natAt bs (12 + tagLength bs) 2 ≠ s.typeCode then .otherProtocol
      else if bs.length < 26 + tagLength bs then .malformed
      else if s.wrongCage bs then .otherCage
      else if natAt bs (18 + tagLength bs) 6 = s.loader.identity.toNat then .ownEcho
      else .passed := by
  have hno : ¬ (natAt bs 0 6 ≠ s.group.toNat ∧ natAt bs 0 6 ≠ s.loader.identity.toNat) := fun h => haddr.elim h.1 h.2
  simp only [State.filter, hsound, hbs, if_neg hno]
  rfl

end Filter

/-! ### The frame's end -/

section Received

variable {s : State} {bytes : List Byte} {codeError : Bool} {r : RxInFlight} (hrx : s.port.rx = some r)

include hrx

/-- A frame that fails a test leaves that test's counter alone behind (R162). -/
theorem segmentFrameReceived_failed {res : FilterResult} (hfilter : s.filter bytes codeError = res) (hres : res ≠ .passed) :
    segmentFrameReceived bytes codeError s =
      { s with port := { s.port with rx := none, counts := s.port.counts.countFilter res } } := by
  simp only [segmentFrameReceived, hrx, hfilter]
  cases res with
  | passed => exact absurd rfl hres
  | _ => rfl

/-- A frame that passes meets a full receive queue (R163). -/
theorem segmentFrameReceived_overrun (hfilter : s.filter bytes codeError = .passed) (hfull : 64 ≤ s.port.rxQueue.length) :
    segmentFrameReceived bytes codeError s = { s with
      port := { s.port with
        rx := none, counts := { s.port.counts with rxOverruns := bump s.port.counts.rxOverruns } },
      req := s.req.raise .segmentRxOverrun } := by
  simp [segmentFrameReceived, hrx, hfilter, State.queueFrame, Config.rxLimit, Nat.not_lt.2 hfull]

end Received

/-- Settles O39: the six tests in the statement's words, then the first that the frame fails, or the queue. -/
theorem segmentFramesAreFiltered : Obligations.SegmentFramesAreFiltered := by
  constructor
  · intro p s hlink hrx
    rw [exec_eq_effect, effect, segmentStart_of_idle hlink hrx]
  intro bytes e s r hrx bs t k after sound group type addressed protocol cage own
  have hsound : frameSound bytes e = true ↔ sound := frameSound_iff bytes e
  have hcage : s.wrongCage bs = false ↔ cage := s.wrongCage_eq_false_iff bs
  have hafter : ∀ res, s.filter bytes e = res → res ≠ .passed → after (k.countFilter res) := fun res hf hp => by
    simp only [after, exec_eq_effect, effect, segmentFrameReceived_failed hrx hf hp]
    rfl
  refine ⟨fun h => ?_, fun hs h => ?_, fun hs ha h => ?_, fun hs ha hp h => ?_, fun hs ha hp hlen => ?_⟩
  · exact hafter .damaged (State.filter_damaged (Bool.eq_false_iff.2 (mt hsound.1 h))) nofun
  · exact hafter .notAddressed (State.filter_notAddressed (hsound.2 hs) rfl h) nofun
  all_goals have hfilter := State.filter_of_addressed (hsound.2 hs) rfl ha
  · exact hafter .otherProtocol (hfilter.trans (if_pos h)) nofun
  · exact hafter .malformed (hfilter.trans ((if_neg (not_not.2 hp)).trans (if_pos h))) nofun
  · replace hfilter := hfilter.trans ((if_neg (not_not.2 hp)).trans (if_neg (Nat.not_lt.2 hlen)))
    refine ⟨fun hc => ?_, fun hc ho => ?_, fun hc ho hroom => ?_, fun hc ho hfull => ?_⟩
    · exact hafter .otherCage (hfilter.trans (if_pos (by simpa using mt hcage.1 hc))) nofun
    all_goals replace hfilter := hfilter.trans (if_neg (by simpa using hcage.2 hc))
    · exact hafter .ownEcho (hfilter.trans (if_pos ho)) nofun
    · replace hfilter := hfilter.trans (if_neg ho)
      obtain ⟨rfl, -⟩ := hs
      rw [exec_eq_effect, effect, segmentFrameReceived_passed hrx hfilter hroom]
    · replace hfilter := hfilter.trans (if_neg ho)
      rw [exec_eq_effect, effect, segmentFrameReceived_overrun hrx hfilter hfull]

end Sys2Proof.Machine
end

section
/-! ## Power-on (R14, R18, R33, R56, R58, R74, R121, R135, R157, R168, R185 to R187) -/

namespace Sys2Proof.Machine

set_option Elab.async false

/-! ### What each invariant says of the state after reset -/

theorem State.reset_withinLimits : State.reset.WithinLimits := by
  unfold State.WithinLimits
  decide

/-- No chain stands after reset, and every page is free (R135). -/
theorem State.reset_chains : State.reset.chains = [] := by decide

theorem State.reset_poolSound : State.reset.PoolSound := by
  refine ⟨by decide, fun i => ?_, fun i => ?_, le_refl _, fun i => ?_⟩
  · rw [State.reset_chains, pagesOf_nil]
    exact PerLine.get_all 0 i
  · rw [show State.reset.pool.held.get i = 0 from PerLine.get_all 0 i]
    exact Nat.zero_le _
  · rw [show State.reset.lines.get i = {} from PerLine.get_all _ i]
    trivial

theorem State.reset_clock_inRange : State.reset.clock.InRange := by
  unfold Clock.InRange
  decide

/-- The image status is LOADING in LOADING; no image, no timer, no peer, no class waited for (R33, R34, R186). -/
theorem State.reset_stateSound : State.reset.StateSound :=
  ⟨rfl, rfl, fun _ => rfl, rfl, rfl, fun _ => ⟨rfl, rfl⟩, nofun⟩

theorem State.reset_serviceSound : State.reset.ServiceSound :=
  (State.serviceSound_iff _).2 ⟨fun _ => powerOn_outOfService 0 State.reset, Publisher.asmSound_of_empty rfl rfl rfl⟩

theorem State.reset_linesSound : State.reset.LinesSound := by
  intro i
  rw [show State.reset.lines.get i = {} from PerLine.get_all _ i]
  exact ⟨nofun, ⟨nofun, nofun⟩, fun _ => rfl⟩

/-- No condition is set, so none is both set and enabled, nor new (R181, R182). -/
theorem State.reset_gateSound : State.reset.req.GateSound := ⟨fun _ => by decide, by decide⟩

/-- Settles O51: each block at its default, and each invariant at reset. -/
theorem powerOnIsSound : Obligations.PowerOnIsSound := by
  exact ⟨fun straps => exec_eq_effect (.powerOn straps), fun straps => exec_eq_effect (.powerOn straps) State.reset,
    State.reset_withinLimits, State.reset_poolSound, State.reset_clock_inRange, State.reset_stateSound,
    State.reset_serviceSound, State.reset_linesSound, State.reset_gateSound, .inl rfl, nofun, State.peersSound_of_nil rfl⟩

end Sys2Proof.Machine
end

section
/-! ## What a command can do to the Request Handler (R169 to R174, R177, R180 to R185)

Most commands reach the Request Handler, and all of them by a few events: a raise, a response, a head that leaves, and so on. Each
invariant of the Request Handler is proved once for each event; `effect_req` says that no command does anything else. -/

namespace Sys2Proof.Machine

set_option Elab.async false

/-- What can happen at the Request Handler between two of its states. -/
inductive ReqHandler.Event : ReqHandler → ReqHandler → Prop
  | count (r : ReqHandler) (k : ReqCounts) : Event r { r with counts := k }
  | latch (r : ReqHandler) : Event r { r with latch := true }
  | respond (r : ReqHandler) (p : Response) : Event r (r.respond p)
  | arrive {r : ReqHandler} (q : Request) (room : r.queue.length < Config.requestLimit) :
      Event r { r with queue := r.queue ++ [q] }
  | leave {r : ReqHandler} {q : Request} {rest : List Request} (head : r.queue = q :: rest) :
      Event r { r with queue := rest, parts := [] }
  | empty (r : ReqHandler) : Event r { r with queue := [], parts := [] }
  | part {r : ReqHandler} {q : Request} {rest : List Request} {b : Block} (items : List Byte) (head : r.queue = q :: rest)
      (once : r.took b = false) (takes : (q.code = 1 ∧ b ∈ statusBlocks) ∨ (q.code = 4 ∧ b ∈ countingBlocks)) :
      Event r { r with parts := r.parts ++ [{ block := b, items := items }] }
  | raise (r : ReqHandler) (c : Condition) : Event r (r.raise c)
  | enable (r : ReqHandler) (e : CondSet) : Event r (r.enable e)
  | acknowledge (r : ReqHandler) (e : CondSet) : Event r (r.acknowledge e)
  | alertSent (r : ReqHandler) (number : Nat) (k : ReqCounts) :
      Event r { r with fresh := 0, alertNumber := number, alertPending := false, counts := k }
  | responseSent {r : ReqHandler} {p : Response} {rest : List Response} (head : r.responses = p :: rest) :
      Event r { r with responses := rest }
  | restart (r : ReqHandler) : Event r { responses := r.responses }
  | powerOn (r : ReqHandler) : Event r {}

/-- One Request Handler comes from another by events. -/
abbrev ReqHandler.Reaches : ReqHandler → ReqHandler → Prop := Relation.ReflTransGen ReqHandler.Event

theorem ReqHandler.Reaches.refl {r : ReqHandler} : r.Reaches r := Relation.ReflTransGen.refl

theorem ReqHandler.Event.reaches {r t : ReqHandler} (h : r.Event t) : r.Reaches t := Relation.ReflTransGen.single h

/-- What every event keeps is kept. -/
theorem ReqHandler.Reaches.keeps {P : ReqHandler → Prop} (hevent : ∀ r t, ReqHandler.Event r t → P r → P t) {r t : ReqHandler}
    (h : r.Reaches t) (hr : P r) : P t := by
  induction h with
  | refl => exact hr
  | tail _ he ih => exact hevent _ _ he ih

/-! ### The shared operations are made of events -/

theorem ReqHandler.reaches_raiseIf (r : ReqHandler) (b : Bool) (c : Condition) : r.Reaches (r.raiseIf b c) := by
  cases b
  · exact .refl
  · exact (Event.raise r c).reaches

theorem ReqHandler.reaches_finish (r : ReqHandler) (res : Result) (d : List Byte) : r.Reaches (r.finish res d) := by
  unfold ReqHandler.finish
  split
  · exact .refl
  next hq => exact ((Event.leave hq).reaches.tail (.count _ _)).tail (.respond _ _)

theorem ReqHandler.reaches_arrive (r : ReqHandler) (q : Request) : r.Reaches (r.arrive q) := by
  unfold ReqHandler.arrive
  split
  next hroom => exact (Event.arrive q hroom).reaches
  · exact (Event.count r _).reaches.tail (.respond _ _)

theorem ReqHandler.reaches_flushOne (qs : List Request) (r : ReqHandler) : r.Reaches (qs.foldl ReqHandler.flushOne r) := by
  induction qs generalizing r with
  | nil => exact .refl
  | cons q qs ih => exact ((Event.count r _).reaches.tail (.respond _ _)).trans (ih _)

theorem ReqHandler.reaches_flush (r : ReqHandler) : r.Reaches r.flush :=
  (Event.empty r).reaches.trans (ReqHandler.reaches_flushOne r.queue _)

/-! ### The commands -/

/-- A request at the head reaches what its refusal and its act reach. -/
theorem State.reaches_carryOut (s : State) (code : Nat) (act : Request → State)
    (h : ∀ q rest, s.req.queue = q :: rest → q.code = code → s.req.Reaches (act q).req) :
    s.req.Reaches (s.carryOut code act).req := by
  rcases s.carryOut_cases code act with e | e | ⟨q, -, hcode, hq, e⟩
  · rw [e]
  · exact e ▸ s.req.reaches_finish _ _
  · obtain ⟨rest, hq⟩ := List.head?_eq_some_iff.1 hq
    exact e ▸ h q rest hq hcode

/-- A request carried out block by block reaches what each block's part reaches. -/
theorem State.reaches_byBlocks (s : State) (blocks : List Block) (part : Option Block) (take : Block → State) (data : List Byte)
    (h : ∀ b ∈ blocks, s.req.took b = false → s.req.Reaches (take b).req) :
    s.req.Reaches (s.byBlocks blocks part take data).req := by
  rcases s.byBlocks_cases blocks part take data with ⟨b, -, hb, hnew, e⟩ | ⟨-, -, e⟩ | e
  · exact e ▸ h b hb hnew
  · exact e ▸ s.req.reaches_finish _ _
  · rw [e]

theorem reaches_status (part : Option Block) (s : State) : s.req.Reaches (status part s).req := by
  refine s.reaches_carryOut _ _ fun q rest hq hcode => s.reaches_byBlocks _ _ _ _ fun b hb hnew => ?_
  exact (ReqHandler.Event.part _ hq hnew (.inl ⟨hcode, hb⟩)).reaches

theorem reaches_clearCountsRequest (part : Option Block) (s : State) : s.req.Reaches (clearCountsRequest part s).req := by
  refine s.reaches_carryOut _ _ fun q rest hq hcode => s.reaches_byBlocks _ _ _ _ fun b hb hnew => ?_
  have hpart (r : ReqHandler) (hqueue : r.queue = s.req.queue) (hparts : r.parts = s.req.parts) :
      ReqHandler.Event r { r with parts := r.parts ++ [{ block := b, items := [] }] } :=
    .part _ (hqueue.trans hq) (by simpa [ReqHandler.took, hparts] using hnew) (.inr ⟨hcode, hb⟩)
  cases b with
  | requests => exact (ReqHandler.Event.count s.req {}).reaches.tail (hpart _ rfl rfl)
  | _ => exact (hpart s.req rfl rfl).reaches

theorem reaches_publish (s : State) (r : Record) : s.req.Reaches (s.publish r).req := by
  have hshed (t : State) : t.req.Reaches t.checkShedding.req := by
    unfold State.checkShedding
    split
    · exact (ReqHandler.Event.raise _ _).reaches
    · exact .refl
  have henqueue (t : State) (r : Record) : t.req.Reaches (t.enqueueRecord r).req := by
    simpa [State.enqueueRecord] using hshed { t with pub := t.pub.enqueue r }
  have hqueue : s.req.Reaches (s.queueRecord r).req := by
    unfold State.queueRecord
    split
    · exact (ReqHandler.Event.raise _ _).reaches
    · split
      · exact henqueue (s.stripRecord r) _
      · exact henqueue s r
  unfold State.publish
  split
  · exact .refl
  · split
    · split
      · exact .refl
      · exact hqueue
    · exact hqueue

theorem reaches_clockStep (s : State) : s.req.Reaches (clockStep s).req := by
  unfold clockStep
  split
  · exact .refl
  · split
    · dsimp only
      split
      · exact ReqHandler.reaches_raiseIf _ _ _
      · exact .refl
    · exact .refl

theorem reaches_secondsWrite (s : State) : s.req.Reaches (secondsWrite s).req := by
  unfold secondsWrite
  split
  · exact .refl
  · split
    · split
      · exact (ReqHandler.Event.latch _).reaches.trans (ReqHandler.reaches_finish _ _ _)
      · exact ReqHandler.reaches_finish _ _ _
    · exact .refl

/-- A conflict flushes the requests and is raised (R38, R39, R174). -/
theorem reaches_enterConflict (s : State) : s.req.Reaches s.enterConflict.req := by
  have hreq : s.enterConflict.req = s.req.flush.raise .stationConflict := by simp [State.enterConflict]
  rw [hreq]
  exact s.req.reaches_flush.tail (.raise _ _)

theorem reaches_hearBeacon (s : State) (b : BeaconIn) : s.req.Reaches (s.hearBeacon b).req := by
  unfold State.hearBeacon
  dsimp only
  split
  · split
    · exact .refl
    · split
      · exact reaches_enterConflict s
      · exact ReqHandler.reaches_raiseIf _ _ _
  · split
    · exact .refl
    · split
      · exact .refl
      · exact (ReqHandler.Event.raise _ _).reaches

theorem reaches_beaconTaken (s : State) : s.req.Reaches (beaconTaken s).req := by
  unfold beaconTaken
  split
  · exact .refl
  · dsimp only
    split
    · exact reaches_hearBeacon { s with agr := { s.agr with inbox := none } } _
    · exact .refl

theorem reaches_roundEnd (s : State) : s.req.Reaches (roundEnd s).req := by
  unfold roundEnd
  split
  · dsimp only
    split
    · exact .refl
    · unfold State.roundInAcquire
      split
      · exact .refl
      · exact ReqHandler.reaches_raiseIf _ _ _
    · exact ReqHandler.reaches_raiseIf _ _ _
    all_goals exact .refl
  · exact .refl

theorem reaches_transmitChoice (phase : Fin 16) (upsets : List Upset) (s : State) :
    s.req.Reaches (transmitChoice phase upsets s).req := by
  unfold transmitChoice
  split
  · split
    · exact .refl
    · split
      · exact (ReqHandler.Event.alertSent _ _ _).reaches
      · split
        next hr => exact (ReqHandler.Event.responseSent hr).reaches
        · simpa [State.sendPublication] using ReqHandler.reaches_raiseIf _ _ _
        · exact .refl
  · exact .refl

/-- A RESTART is counted and refused in LOADING; else the requests are flushed, it is answered, and the responses alone are kept
(R173, R174, R185). -/
theorem reaches_restartArrives (s : State) (q : Request) (straps : Fin 16) : s.req.Reaches (s.restartArrives q straps).req := by
  unfold State.restartArrives
  split
  · exact (ReqHandler.Event.count _ _).reaches.tail (.respond _ _)
  · rw [State.restart_req]
    exact (s.req.reaches_flush.tail (.respond _ _)).tail (.restart _)

theorem reaches_deliver (s : State) (f : RxFrame) (d : Dispatched) (straps : Fin 16) :
    s.req.Reaches (s.deliver f d straps).req := by
  cases d with
  | publication station identity number records =>
    unfold State.deliver State.handFrame State.checkNumber
    dsimp only
    repeat' split
    all_goals exact .refl
  | request target q =>
    unfold State.deliver State.requestArrives
    dsimp only
    split
    · refine (ReqHandler.Event.count s.req { s.req.counts with received := bump s.req.counts.received }).reaches.trans ?_
      split
      · exact reaches_restartArrives { s with req := { s.req with counts := _ } } q straps
      · exact ReqHandler.reaches_arrive _ q
    · exact .refl
  | _ => exact .refl

theorem reaches_dispatch (straps : Fin 16) (s : State) : s.req.Reaches (dispatch straps s).req := by
  unfold dispatch
  split
  · exact .refl
  next f rest _ =>
    split
    · exact reaches_deliver { s with port := { s.port with rxQueue := rest } } _ _ _
    · exact .refl

theorem reaches_imageReadDone (flash : List Byte) (s : State) : s.req.Reaches (imageReadDone flash s).req := by
  unfold imageReadDone
  split
  · split
    · exact (ReqHandler.Event.enable _ _).reaches
    · exact (ReqHandler.Event.enable _ _).reaches.trans (ReqHandler.reaches_raiseIf _ _ _)
  · exact .refl

/-! The commands that can raise a condition, and do no more. -/

theorem ReqHandler.reaches_raise (r : ReqHandler) (c : Condition) : r.Reaches (r.raise c) := (Event.raise r c).reaches

theorem reaches_lineLinkLoss (i : Line) (s : State) : s.req.Reaches (lineLinkLoss i s).req := by
  unfold lineLinkLoss
  split
  · exact .refl
  · exact s.req.reaches_raise _

theorem reaches_settleExpiry (i : Line) (s : State) : s.req.Reaches (settleExpiry i s).req := by
  unfold settleExpiry
  dsimp only
  split
  · split
    · exact .refl
    · exact s.req.reaches_raise _
  · exact .refl

theorem reaches_silenceExpiry (i : Line) (s : State) : s.req.Reaches (silenceExpiry i s).req := by
  unfold silenceExpiry
  split
  · exact s.req.reaches_raise _
  · exact .refl

/-- A refusal of the Page Pool is raised (R126). -/
theorem reaches_frameByte (i : Line) (b : Byte) (codeError : Bool) (s : State) : s.req.Reaches (frameByte i b codeError s).req := by
  unfold frameByte
  dsimp only
  split
  · exact .refl
  · split
    · exact .refl
    · split
      case h_4 => exact s.req.reaches_raise _
      case h_5 => exact s.req.reaches_raise _
      all_goals exact .refl

theorem reaches_gapExpiry (i : Fin 32) (s : State) : s.req.Reaches (gapExpiry i s).req := by
  unfold gapExpiry
  dsimp only
  split
  · exact .refl
  · split
    · exact .refl
    · split
      · exact s.req.reaches_raise _
      · exact .refl

theorem reaches_pulse (ago : Nat) (phase : Fin 16) (s : State) : s.req.Reaches (pulse ago phase s).req := by
  unfold pulse
  split
  · exact .refl
  · split
    · exact .refl
    · exact s.req.reaches_raiseIf _ _

theorem reaches_pulseWindowExpiry (s : State) : s.req.Reaches (pulseWindowExpiry s).req := by
  unfold pulseWindowExpiry
  split
  · exact s.req.reaches_raiseIf _ _
  · exact .refl

theorem reaches_silenceDeadline (n : Fin 16) (s : State) : s.req.Reaches (silenceDeadline n s).req := by
  unfold silenceDeadline
  split
  · exact .refl
  · split
    · split
      · exact s.req.reaches_raise _
      · exact .refl
    · exact .refl

theorem reaches_segmentFrameReceived (bytes : List Byte) (codeError : Bool) (s : State) :
    s.req.Reaches (segmentFrameReceived bytes codeError s).req := by
  unfold segmentFrameReceived
  split
  · exact .refl
  · dsimp only
    split
    case h_1 =>
      unfold State.queueFrame
      split
      · exact .refl
      · exact s.req.reaches_raise _
    all_goals exact .refl

theorem reaches_recordTaken (m : Maker) (s : State) : s.req.Reaches (recordTaken m s).req := by
  unfold recordTaken
  split
  · exact .refl
  next r rest _ => exact reaches_publish { s with pub := s.pub.setWaiting m rest } r

/-! The requests carried out at one event. -/

theorem reaches_feedReportRequest (s : State) : s.req.Reaches (feedReportRequest s).req := by
  refine s.reaches_carryOut _ _ fun _ _ _ _ => ?_
  split
  · exact ReqHandler.reaches_finish _ _ _
  · split <;> exact ReqHandler.reaches_finish _ _ _

/-- A SET_SECONDS that is handed over stays at the head (R178). -/
theorem reaches_setSecondsRequest (s : State) : s.req.Reaches (setSecondsRequest s).req := by
  refine s.reaches_carryOut _ _ fun _ _ _ _ => ?_
  split
  · exact ReqHandler.reaches_finish _ _ _
  · split
    · exact ReqHandler.reaches_finish _ _ _
    · split <;> exact .refl

theorem reaches_markRequest (s : State) : s.req.Reaches (markRequest s).req := by
  refine s.reaches_carryOut _ _ fun _ _ _ _ => ?_
  dsimp only
  split <;> exact ReqHandler.reaches_finish _ _ _

theorem reaches_cancelMarkRequest (s : State) : s.req.Reaches (cancelMarkRequest s).req := by
  refine s.reaches_carryOut _ _ fun _ _ _ _ => ?_
  split <;> exact ReqHandler.reaches_finish _ _ _

theorem reaches_setAlertEnablesRequest (s : State) : s.req.Reaches (setAlertEnablesRequest s).req := by
  refine s.reaches_carryOut _ _ fun _ _ _ _ => ?_
  split
  · exact (ReqHandler.Event.enable _ _).reaches.trans (ReqHandler.reaches_finish _ _ _)
  · exact ReqHandler.reaches_finish _ _ _

theorem reaches_ackAlertsRequest (s : State) : s.req.Reaches (ackAlertsRequest s).req := by
  refine s.reaches_carryOut _ _ fun _ _ _ _ => ?_
  split
  · exact (ReqHandler.Event.acknowledge _ _).reaches.trans (ReqHandler.reaches_finish _ _ _)
  · exact ReqHandler.reaches_finish _ _ _

theorem reaches_unknownRequest (s : State) : s.req.Reaches (unknownRequest s).req := by
  unfold unknownRequest
  split
  · exact .refl
  · split
    · exact .refl
    · exact ReqHandler.reaches_finish _ _ _

/-- No command does anything else to the Request Handler. -/
theorem effect_req (c : Instr) (s : State) : s.req.Reaches (effect c s).req := by
  by_cases hc : (touched c).req = false
  · rw [(effect_sameBut c s).req hc]
  cases c
  case powerOn straps => exact (ReqHandler.Event.powerOn _).reaches
  case linkLoss i => exact reaches_lineLinkLoss i s
  case settleTimerExpiry i => exact reaches_settleExpiry i s
  case silenceTimerExpiry i => exact reaches_silenceExpiry i s
  case frameByte i b codeError => exact reaches_frameByte i b codeError s
  case gapExpiry i => exact reaches_gapExpiry i s
  case pulse ago phase => exact reaches_pulse ago phase s
  case pulseWindowExpiry => exact reaches_pulseWindowExpiry s
  case clockStep => exact reaches_clockStep s
  case secondsWrite => exact reaches_secondsWrite s
  case beaconTaken => exact reaches_beaconTaken s
  case silenceDeadline n => exact reaches_silenceDeadline n s
  case roundEnd => exact reaches_roundEnd s
  case recordTaken m => exact reaches_recordTaken m s
  case transmitChoice phase upsets => exact reaches_transmitChoice phase upsets s
  case segmentFrameReceived bytes codeError => exact reaches_segmentFrameReceived bytes codeError s
  case dispatch straps => exact reaches_dispatch straps s
  case status part => exact reaches_status part s
  case feedReport => exact reaches_feedReportRequest s
  case peerReport => exact s.reaches_carryOut _ _ fun _ _ _ _ => ReqHandler.reaches_finish _ _ _
  case clearCounts part => exact reaches_clearCountsRequest part s
  case setSeconds => exact reaches_setSecondsRequest s
  case mark => exact reaches_markRequest s
  case cancelMark => exact reaches_cancelMarkRequest s
  case setAlertEnables => exact reaches_setAlertEnablesRequest s
  case ackAlerts => exact reaches_ackAlertsRequest s
  case unknownRequest => exact reaches_unknownRequest s
  case imageReadDone flash => exact reaches_imageReadDone flash s
  all_goals exact absurd rfl hc

/-! ### The gate (R181, R182) -/

/-- One set of conditions lies within another when every condition of the first is of the second. -/
theorem CondSet.and_not_eq_zero_iff (x y : CondSet) : x &&& ~~~ y = 0 ↔ ∀ i, x.getLsbD i = true → y.getLsbD i = true := by
  constructor
  · intro h i hx
    have hi := congrArg (fun z : CondSet => z.getLsbD i) h
    have hlt := BitVec.lt_of_getLsbD hx
    simpa [hx, hlt] using hi
  · intro h
    refine BitVec.eq_of_getLsbD_eq fun i hi => ?_
    by_cases hx : x.getLsbD i = true
    · simp [hx, h i hx, hi]
    · simp [hx]

theorem ReqHandler.gateTest_gateSound {r : ReqHandler} (h : r.fresh &&& ~~~ r.set = 0) : r.gateTest.GateSound :=
  ⟨by simpa using r.gateTest_open, by simpa using h⟩

theorem ReqHandler.GateSound.of_eq {r t : ReqHandler} (h : r.GateSound) (hgate : t.gateOpen = r.gateOpen) (hset : t.set = r.set)
    (hfresh : t.fresh = r.fresh) (henabled : t.enabled = r.enabled) : t.GateSound := by
  unfold ReqHandler.GateSound
  rw [hgate, hset, hfresh, henabled]
  exact h

theorem ReqHandler.raise_gateSound {r : ReqHandler} (h : r.GateSound) (c : Condition) : (r.raise c).GateSound := by
  refine ReqHandler.gateTest_gateSound ((CondSet.and_not_eq_zero_iff _ _).2 fun i hi => ?_)
  have hold := (CondSet.and_not_eq_zero_iff _ _).1 h.2 i
  dsimp only at hi ⊢
  rw [BitVec.getLsbD_or, Bool.or_eq_true]
  split at hi
  · rw [BitVec.getLsbD_or, Bool.or_eq_true] at hi
    exact hi.imp_left hold
  · exact .inl (hold hi)

theorem ReqHandler.acknowledge_gateSound {r : ReqHandler} (h : r.GateSound) (e : CondSet) : (r.acknowledge e).GateSound := by
  refine ReqHandler.gateTest_gateSound ((CondSet.and_not_eq_zero_iff _ _).2 fun i hi => ?_)
  have hold := (CondSet.and_not_eq_zero_iff _ _).1 h.2 i
  dsimp only at hi ⊢
  rw [BitVec.getLsbD_and, Bool.and_eq_true] at hi ⊢
  exact hi.imp_left hold

theorem ReqHandler.respond_gateSound {r : ReqHandler} (h : r.GateSound) (p : Response) : (r.respond p).GateSound := by
  rcases r.respond_cases p with ⟨-, e⟩ | ⟨-, e⟩ <;> rw [e] <;> exact h.of_eq rfl rfl rfl rfl

theorem ReqHandler.Event.gateSound {r t : ReqHandler} (he : r.Event t) (h : r.GateSound) : t.GateSound := by
  cases he with
  | respond p => exact ReqHandler.respond_gateSound h p
  | raise c => exact ReqHandler.raise_gateSound h c
  | enable e => exact ReqHandler.gateTest_gateSound h.2
  | acknowledge e => exact ReqHandler.acknowledge_gateSound h e
  | alertSent number k => exact ⟨h.1, by simp⟩
  | restart => exact State.reset_gateSound.of_eq rfl rfl rfl rfl
  | powerOn => exact State.reset_gateSound
  | _ => exact h.of_eq rfl rfl rfl rfl

/-! ### The parts of the request at the head (R174, R175, R177) -/

theorem ReqHandler.PartsSound.of_eq {r t : ReqHandler} (h : r.PartsSound) (hqueue : t.queue = r.queue)
    (hparts : t.parts = r.parts) : t.PartsSound := by
  unfold ReqHandler.PartsSound
  rw [hqueue, hparts]
  exact h

@[simp] theorem ReqHandler.gateTest_parts (r : ReqHandler) : r.gateTest.parts = r.parts := by
  unfold ReqHandler.gateTest; split <;> rfl

/-- A part of a block not yet among those taken, of the request that stands at the head. -/
theorem ReqHandler.PartsSound.add {r : ReqHandler} (h : r.PartsSound) {q : Request} {rest : List Request} {b : Block}
    (hq : r.queue = q :: rest) (hnew : r.took b = false)
    (htakes : (q.code = 1 ∧ b ∈ statusBlocks) ∨ (q.code = 4 ∧ b ∈ countingBlocks)) (items : List Byte) :
    ({ r with parts := r.parts ++ [{ block := b, items := items }] } : ReqHandler).PartsSound := by
  have hb : b ∉ r.parts.map Part.block := by
    simpa [ReqHandler.took] using hnew
  have hold : (r.parts.map Part.block).Nodup ∧
      ((q.code = 1 ∧ ∀ p ∈ r.parts, p.block ∈ statusBlocks) ∨ (q.code = 4 ∧ ∀ p ∈ r.parts, p.block ∈ countingBlocks)) := by
    rcases h with hnil | ⟨q', rest', hq', hnodup, hblocks⟩
    · simp only [hnil, List.map_nil, List.nodup_nil, true_and]
      exact htakes.imp (fun h => ⟨h.1, nofun⟩) (fun h => ⟨h.1, nofun⟩)
    · obtain ⟨rfl, rfl⟩ := List.cons.inj (hq.symm.trans hq')
      exact ⟨hnodup, hblocks⟩
  obtain ⟨hnodup, hblocks⟩ := hold
  refine .inr ⟨q, rest, hq, ?_, ?_⟩
  · rw [List.map_append, List.nodup_append]
    exact ⟨hnodup, by simp, by simpa using hb⟩
  · simp only [List.mem_append, List.mem_singleton]
    rcases hblocks with ⟨hcode, hblocks⟩ | ⟨hcode, hblocks⟩
    · have hmem : b ∈ statusBlocks := by simpa [hcode] using htakes
      exact .inl ⟨hcode, by rintro p (hp | rfl); exacts [hblocks p hp, hmem]⟩
    · have hmem : b ∈ countingBlocks := by simpa [hcode] using htakes
      exact .inr ⟨hcode, by rintro p (hp | rfl); exacts [hblocks p hp, hmem]⟩

theorem ReqHandler.Event.partsSound {r t : ReqHandler} (he : r.Event t) (h : r.PartsSound) : t.PartsSound := by
  cases he with
  | respond p =>
    rcases r.respond_cases p with ⟨-, e⟩ | ⟨-, e⟩ <;> rw [e] <;> exact h.of_eq rfl rfl
  | arrive q room =>
    rcases h with hnil | ⟨q', rest, hq, hrest⟩
    · exact .inl hnil
    · exact .inr ⟨q', rest ++ [q], by simp [hq], hrest⟩
  | leave head => exact .inl rfl
  | empty => exact .inl rfl
  | part items head once takes => exact h.add head once takes items
  | raise c => exact h.of_eq (by simp) (by simp [ReqHandler.raise])
  | enable e => exact h.of_eq (by simp [ReqHandler.enable]) (by simp [ReqHandler.enable])
  | acknowledge e => exact h.of_eq (by simp [ReqHandler.acknowledge]) (by simp [ReqHandler.acknowledge])
  | restart => exact .inl rfl
  | powerOn => exact .inl rfl
  | _ => exact h.of_eq rfl rfl

/-! ### The two queues (R169, R172) -/

/-- The request queue and the response queue within their sizes. -/
def ReqHandler.WithinLimits (r : ReqHandler) : Prop :=
  r.queue.length ≤ Config.requestLimit ∧ r.responses.length ≤ Config.responseLimit

theorem ReqHandler.Event.withinLimits {r t : ReqHandler} (he : r.Event t) (h : r.WithinLimits) : t.WithinLimits := by
  obtain ⟨hqueue, hresponses⟩ := h
  cases he with
  | respond p =>
    rcases r.respond_cases p with ⟨hroom, e⟩ | ⟨-, e⟩ <;> rw [e]
    · exact ⟨hqueue, by simpa using hroom⟩
    · exact ⟨hqueue, hresponses⟩
  | arrive q room => exact ⟨by simpa using room, hresponses⟩
  | leave head =>
    rw [head, List.length_cons] at hqueue
    exact ⟨Nat.le_of_succ_le hqueue, hresponses⟩
  | empty => exact ⟨Nat.zero_le _, hresponses⟩
  | raise c => exact ⟨by simpa using hqueue, by simpa using hresponses⟩
  | enable e => exact ⟨by simpa [ReqHandler.enable] using hqueue, by simpa [ReqHandler.enable] using hresponses⟩
  | acknowledge e => exact ⟨by simpa [ReqHandler.acknowledge] using hqueue, by simpa [ReqHandler.acknowledge] using hresponses⟩
  | responseSent head =>
    rw [head, List.length_cons] at hresponses
    exact ⟨hqueue, Nat.le_of_succ_le hresponses⟩
  | restart => exact ⟨Nat.zero_le _, hresponses⟩
  | powerOn => exact ⟨Nat.zero_le _, Nat.zero_le _⟩
  | _ => exact ⟨hqueue, hresponses⟩

end Sys2Proof.Machine
end

section
/-! ## Every step keeps the queues, rings and lists within their sizes (R36, R44, R137, R145, R147, R163, R188) -/

namespace Sys2Proof.Machine

set_option Elab.async false

/-! ### The feed map (R74, R188) -/

theorem shedInto_length (feeds : List FeedSlot) (a : ArrivalRec) : (shedInto feeds a).length = feeds.length := by
  unfold shedInto modifyFeed
  split <;> simp

theorem State.classified_feeds_length (s : State) (h : HandOff) : (s.classified h).feeds.length = s.feeds.length := by
  unfold State.classified
  dsimp only
  repeat' split
  all_goals simp [modifyFeed]

theorem State.recordAtTable_feeds_length (s : State) (r : List Byte) (q : Nat) (f : FeedSlot) :
    (s.recordAtTable r q f).feeds.length = s.feeds.length := by
  unfold State.recordAtTable
  dsimp only
  repeat' split
  all_goals simp [modifyFeed]

theorem State.takeRecord_feeds_length (s : State) (r : List Byte) (q : Nat) :
    (s.takeRecord r q).feeds.length = s.feeds.length := by
  unfold State.takeRecord
  split
  case h_4 => exact s.recordAtTable_feeds_length r q _
  all_goals rfl

theorem State.publish_feeds_length (s : State) (r : Record) : (s.publish r).feeds.length = s.feeds.length := by
  unfold State.publish
  split
  · rfl
  · split
    · split
      · exact shedInto_length _ _
      · simp
    · simp

theorem State.checkNormal_feeds_length (s : State) : s.checkNormal.feeds.length = s.feeds.length := by
  unfold State.checkNormal
  split <;> simp

theorem classifyHandOff_feeds_length (i : Line) (s : State) : (classifyHandOff i s).feeds.length = s.feeds.length := by
  unfold classifyHandOff
  split
  · rfl
  · exact State.classified_feeds_length _ _

theorem localArrival_feeds_length (i : Line) (s : State) : (localArrival i s).feeds.length = s.feeds.length := by
  unfold localArrival State.takeArrival
  dsimp only
  repeat' split
  all_goals simp

theorem gapExpiry_feeds_length (i : Fin 32) (s : State) : (gapExpiry i s).feeds.length = s.feeds.length := by
  unfold gapExpiry
  dsimp only
  repeat' split
  all_goals simp

theorem peerRecord_feeds_length (s : State) : (peerRecord s).feeds.length = s.feeds.length := by
  unfold peerRecord
  split
  · rfl
  · split
    · rfl
    · split
      · rfl
      · exact State.takeRecord_feeds_length _ _ _

theorem recordTaken_feeds_length (m : Maker) (s : State) : (recordTaken m s).feeds.length = s.feeds.length := by
  unfold recordTaken
  split
  · rfl
  · exact State.publish_feeds_length _ _

theorem recordEntersFrame_feeds_length (s : State) : (recordEntersFrame s).feeds.length = s.feeds.length := by
  unfold recordEntersFrame
  split
  · rfl
  · split
    · rw [State.checkFull_feeds, State.checkNormal_feeds_length]
    · rfl

theorem clearCountsRequest_feeds_length (part : Option Block) (s : State) :
    (clearCountsRequest part s).feeds.length = s.feeds.length := by
  rcases clearCountsRequest_cases part s with ⟨b, e⟩ | e
  · rw [e]
    cases b <;> simp [State.clearCounts]
  · rw [e.feeds rfl]

/-- No command but the acceptance of an image makes the feed map longer. -/
theorem effect_feeds_length_le (c : Instr) (s : State) (hc : ∀ flash, c ≠ .imageReadDone flash) :
    (effect c s).feeds.length ≤ s.feeds.length := by
  by_cases ht : (touched c).feeds = false
  · rw [(effect_sameBut c s).feeds ht]
  cases c
  case powerOn straps => exact Nat.zero_le _
  case classifyHandOff i => exact (classifyHandOff_feeds_length i s).le
  case localArrival i => exact (localArrival_feeds_length i s).le
  case gapExpiry i => exact (gapExpiry_feeds_length i s).le
  case peerRecord => exact (peerRecord_feeds_length s).le
  case beaconTaken =>
    show (beaconTaken s).feeds.length ≤ _
    rcases beaconTaken_cases s with e | e
    · rw [e.feeds rfl]
    · rw [e, State.enterConflict_feeds, List.length_map]
  case recordTaken m => exact (recordTaken_feeds_length m s).le
  case recordEntersFrame => exact (recordEntersFrame_feeds_length s).le
  case dispatch straps =>
    show (dispatch straps s).feeds.length ≤ _
    rcases dispatch_cases straps s with e | ⟨-, port, req, e⟩
    · rw [e.feeds rfl]
    · rw [e]; exact Nat.zero_le _
  case clearCounts part => exact (clearCountsRequest_feeds_length part s).le
  case imageReadDone flash => exact absurd rfl (hc flash)
  all_goals exact absurd rfl ht

/-- The flash reads as what answers, and as ones past its end (R188, log 36). -/
theorem readFlash_getElem? (flash : List Byte) {n j : Nat} (h : j < n) :
    (readFlash flash n)[j]? = some (flash[j]?.getD 0xFF) := by
  rw [readFlash, List.getElem?_take_of_lt h]
  by_cases hj : j < flash.length
  · rw [List.getElem?_append_left hj]
    simp [hj]
  · rw [List.getElem?_append_right (by omega), List.getElem?_replicate_of_lt (by omega)]
    simp [hj]

/-- A longer read of the flash begins as a shorter one does. -/
theorem natAt_readFlash (flash : List Byte) {off k n m : Nat} (hn : off + k ≤ n) (hm : off + k ≤ m) :
    natAt (readFlash flash n) off k = natAt (readFlash flash m) off k := by
  refine congrArg fromBE (List.ext_getElem? fun i => ?_)
  by_cases hi : i < k
  · simp only [slice, List.getElem?_take_of_lt hi, List.getElem?_drop]
    rw [readFlash_getElem? flash (by omega), readFlash_getElem? flash (by omega)]
  · simp [slice, hi]

/-- An image that passes the tests has at most 32 feed entries (R188). -/
theorem imageFeeds_le_of_sound {flash : List Byte} (h : imageFault flash = none) :
    imageFeeds (readFlash flash (imageLength (imageFeeds (readFlash flash fixedBytes)))) ≤ feedLimit := by
  have hle : imageFeeds (readFlash flash fixedBytes) ≤ feedLimit := by
    by_contra hnot
    have hgt : 32 < imageFeeds (readFlash flash fixedBytes) := lt_of_not_ge hnot
    simp only [imageFault] at h
    rw [if_pos (Or.inl hgt)] at h
    split at h <;> cases h
  unfold imageFeeds at hle ⊢
  rwa [natAt_readFlash flash (m := fixedBytes) (by simp [imageLength_eq]; omega) (by decide)]

theorem imageReadDone_feeds_length {flash : List Byte} {s : State} (h : s.feeds.length ≤ feedLimit) :
    (imageReadDone flash s).feeds.length ≤ feedLimit := by
  unfold imageReadDone
  split
  · split
    · exact h
    next hsound => simpa [State.accept, readImage, imageEntries] using imageFeeds_le_of_sound hsound
  · exact h

theorem effect_keeps_feedLimit (c : Instr) {s : State} (h : s.feeds.length ≤ feedLimit) :
    (effect c s).feeds.length ≤ feedLimit := by
  by_cases hc : ∃ flash, c = .imageReadDone flash
  · obtain ⟨flash, rfl⟩ := hc
    exact imageReadDone_feeds_length h
  · exact (effect_feeds_length_le c s fun flash e => hc ⟨flash, e⟩).trans h

/-! ### The publication queue and the frame under assembly (R137, R145, R147) -/

/-- The queue and the frame under assembly within their sizes. -/
def Publisher.WithinLimits (p : Publisher) : Prop :=
  p.queue.length ≤ Config.queueLimit ∧ p.asm.length ≤ Config.frameRecords

theorem Publisher.withinLimits_of_nil {p : Publisher} (hqueue : p.queue = []) (hasm : p.asm = []) : p.WithinLimits := by
  simp [Publisher.WithinLimits, hqueue, hasm]

theorem State.closeFrame_withinLimits {s : State} (h : s.pub.WithinLimits) : s.closeFrame.pub.WithinLimits :=
  ⟨h.1, Nat.zero_le _⟩

theorem State.closingCondition_withinLimits {s : State} (h : s.pub.WithinLimits) : s.closingCondition.pub.WithinLimits := by
  rcases s.closingCondition_cases with ⟨-, e⟩ | ⟨-, e⟩ <;> rw [e]
  · exact State.closeFrame_withinLimits h
  · exact h

theorem State.checkFull_withinLimits {s : State} (h : s.pub.WithinLimits) : s.checkFull.pub.WithinLimits := by
  unfold State.checkFull
  split
  · exact State.closingCondition_withinLimits h
  · exact h

theorem State.checkShedding_withinLimits {s : State} (h : s.pub.WithinLimits) : s.checkShedding.pub.WithinLimits := by
  unfold State.checkShedding
  split <;> exact h

/-- The SUMMARY records of a feed map of at most 32 entries fit a queue of depth 256 (R145). -/
theorem State.checkNormal_withinLimits {s : State} (h : s.pub.WithinLimits) (hfeeds : s.feeds.length ≤ feedLimit) :
    s.checkNormal.pub.WithinLimits := by
  unfold State.checkNormal
  split
  next hdepth =>
    have hsummaries : (summaries s.feeds).length ≤ s.feeds.length := List.length_filterMap_le _ _
    have hdepth : s.pub.queue.length = 256 := hdepth.1
    refine ⟨?_, h.2⟩
    simp only [List.length_append, Config.queueLimit, feedLimit] at *
    omega
  · exact h

/-- A record is enqueued only below the limit (R137, R146). -/
theorem State.enqueueRecord_withinLimits {s : State} (h : s.pub.WithinLimits) (hroom : s.pub.depth ≠ Config.queueLimit)
    (r : Record) : (s.enqueueRecord r).pub.WithinLimits := by
  refine State.checkFull_withinLimits (State.checkShedding_withinLimits ⟨?_, h.2⟩)
  have := lt_of_le_of_ne h.1 hroom
  simpa [Publisher.enqueue] using this

theorem State.queueRecord_withinLimits {s : State} (h : s.pub.WithinLimits) (r : Record) :
    (s.queueRecord r).pub.WithinLimits := by
  unfold State.queueRecord
  split
  · exact h
  next hroom =>
    split
    · exact State.enqueueRecord_withinLimits (s := s.stripRecord r) h hroom _
    · exact State.enqueueRecord_withinLimits h hroom r

theorem State.publish_withinLimits {s : State} (h : s.pub.WithinLimits) (r : Record) : (s.publish r).pub.WithinLimits := by
  unfold State.publish
  split
  · exact h
  · split
    · split
      · exact h
      · exact State.queueRecord_withinLimits h r
    · exact State.queueRecord_withinLimits h r

theorem recordTaken_withinLimits (m : Maker) {s : State} (h : s.pub.WithinLimits) : (recordTaken m s).pub.WithinLimits := by
  unfold recordTaken
  split
  · exact h
  · refine State.publish_withinLimits ?_ _
    cases m <;> exact h

/-- A record enters a frame that holds fewer than 16 (R147). -/
theorem recordEntersFrame_withinLimits {s : State} (h : s.pub.WithinLimits) (hfeeds : s.feeds.length ≤ feedLimit) :
    (recordEntersFrame s).pub.WithinLimits := by
  unfold recordEntersFrame
  split
  · exact h
  next r rest hq =>
    split
    next hfits =>
      refine State.checkFull_withinLimits (State.checkNormal_withinLimits ⟨?_, ?_⟩ hfeeds)
      · have hqueue := h.1
        rw [hq, List.length_cons] at hqueue
        exact Nat.le_of_succ_le hqueue
      · have hroom : s.pub.asm.length < Config.frameRecords := by
          simpa using (Bool.and_eq_true_iff.1 hfits.2).1
        simpa [Publisher.enter] using hroom
    · exact h

theorem transmitChoice_withinLimits (phase : Fin 16) (upsets : List Upset) {s : State} (h : s.pub.WithinLimits) :
    (transmitChoice phase upsets s).pub.WithinLimits := by
  unfold transmitChoice State.sendPublication State.refillSlot
  dsimp only
  repeat' split
  case h_2.isTrue => exact State.closeFrame_withinLimits (s := { s with pub := { s.pub with ready := none } }) h
  all_goals exact h

/-! Commands that count, hand over, or arm a mark leave the queue and the frame as they are. -/

section Untouched

variable {s : State} (h : s.pub.WithinLimits)

include h

theorem classifyHandOff_withinLimits (i : Line) : (classifyHandOff i s).pub.WithinLimits := by
  unfold classifyHandOff State.classified
  dsimp only
  repeat' split
  all_goals exact h

theorem localArrival_withinLimits (i : Line) : (localArrival i s).pub.WithinLimits := by
  unfold localArrival
  dsimp only
  repeat' split
  all_goals exact h

theorem gapExpiry_withinLimits (i : Fin 32) : (gapExpiry i s).pub.WithinLimits := by
  unfold gapExpiry
  dsimp only
  repeat' split
  all_goals exact h

theorem peerRecord_withinLimits : (peerRecord s).pub.WithinLimits := by
  unfold peerRecord State.takeRecord State.recordAtTable
  dsimp only
  repeat' split
  all_goals exact h

theorem markFire_withinLimits : (markFire s).pub.WithinLimits := by
  unfold markFire
  repeat' split
  all_goals exact h

theorem State.endTx_withinLimits (e : TxEnding) : (s.endTx e).pub.WithinLimits := by
  unfold State.endTx
  split <;> exact h

theorem segmentLinkLoss_withinLimits : (segmentLinkLoss s).pub.WithinLimits := by
  unfold segmentLinkLoss
  split
  · exact State.endTx_withinLimits h .cut
  · exact h

theorem clearCountsRequest_withinLimits (part : Option Block) : (clearCountsRequest part s).pub.WithinLimits := by
  rcases clearCountsRequest_cases part s with ⟨b, e⟩ | e
  · rw [e]
    cases b <;> exact h
  · rwa [e.pub rfl]

theorem markRequest_withinLimits : (markRequest s).pub.WithinLimits := by
  unfold markRequest
  rcases s.carryOut_cases 6 _ with e | e | ⟨q, -, -, -, e⟩ <;> rw [e]
  · exact h
  · exact h
  · unfold Publisher.takeMark
    dsimp only
    repeat' split
    all_goals exact h

theorem cancelMarkRequest_withinLimits : (cancelMarkRequest s).pub.WithinLimits := by
  unfold cancelMarkRequest
  rcases s.carryOut_cases 7 _ with e | e | ⟨q, -, -, -, e⟩ <;> rw [e]
  · exact h
  · exact h
  · split <;> exact h

end Untouched

theorem batchTimerExpiry_withinLimits {s : State} (h : s.pub.WithinLimits) : (batchTimerExpiry s).pub.WithinLimits := by
  unfold batchTimerExpiry
  split
  · exact State.closingCondition_withinLimits h
  · exact h

theorem effect_keeps_publisher (c : Instr) {s : State} (h : s.pub.WithinLimits) (hfeeds : s.feeds.length ≤ feedLimit) :
    (effect c s).pub.WithinLimits := by
  by_cases hc : (touched c).pub = false
  · rwa [(effect_sameBut c s).pub hc]
  cases c
  case powerOn straps => exact Publisher.withinLimits_of_nil rfl rfl
  case classifyHandOff i => exact classifyHandOff_withinLimits h i
  case localArrival i => exact localArrival_withinLimits h i
  case gapExpiry i => exact gapExpiry_withinLimits h i
  case peerRecord => exact peerRecord_withinLimits h
  case beaconTaken =>
    show (beaconTaken s).pub.WithinLimits
    rcases beaconTaken_cases s with e | e
    · rwa [e.pub rfl]
    · rw [e]; exact Publisher.withinLimits_of_nil rfl rfl
  case recordTaken m => exact recordTaken_withinLimits m h
  case recordEntersFrame => exact recordEntersFrame_withinLimits h hfeeds
  case batchTimerExpiry => exact batchTimerExpiry_withinLimits h
  case markFire => exact markFire_withinLimits h
  case transmitChoice phase upsets => exact transmitChoice_withinLimits phase upsets h
  case segmentTxEnd => exact State.endTx_withinLimits h .whole
  case segmentLinkLoss => exact segmentLinkLoss_withinLimits h
  case dispatch straps =>
    show (dispatch straps s).pub.WithinLimits
    rcases dispatch_cases straps s with e | ⟨-, port, req, e⟩
    · rwa [e.pub rfl]
    · rw [e]; exact Publisher.withinLimits_of_nil rfl rfl
  case clearCounts part => exact clearCountsRequest_withinLimits h part
  case mark => exact markRequest_withinLimits h
  case cancelMark => exact cancelMarkRequest_withinLimits h
  all_goals exact absurd rfl hc

/-! ### The receive queue (R163) -/

/-- Where the head of the receive queue goes, the rest of the queue stays. -/
theorem State.deliver_rxQueue (s : State) (f : RxFrame) (d : Dispatched) (straps : Fin 16) :
    (s.deliver f d straps).port.rxQueue = s.port.rxQueue := by
  cases d with
  | publication station identity number records =>
    unfold State.deliver State.handFrame State.checkNumber
    dsimp only
    repeat' split
    all_goals rfl
  | request target q =>
    unfold State.deliver State.requestArrives State.restartArrives
    dsimp only
    repeat' split
    case isTrue.isTrue.isFalse => simp [State.restart_port, (State.abandonPublication_port_receive _).2.2]
    all_goals rfl
  | _ => rfl

/-- At a boundary the dates that wait are marked, and none leaves or joins (R40). -/
theorem State.discardSamples_rxQueue_length (s : State) : s.discardSamples.port.rxQueue.length = s.port.rxQueue.length := by
  simp [State.discardSamples]

theorem clockStep_rxQueue_length (s : State) : (clockStep s).port.rxQueue.length = s.port.rxQueue.length := by
  unfold clockStep
  split
  · rfl
  · split
    · dsimp only
      split <;> exact State.discardSamples_rxQueue_length _
    · rfl

theorem secondsWrite_rxQueue_length (s : State) : (secondsWrite s).port.rxQueue.length = s.port.rxQueue.length := by
  unfold secondsWrite
  split
  · rfl
  · split
    · split
      · exact State.discardSamples_rxQueue_length _
      · rfl
    · rfl

theorem transmitChoice_rxQueue (phase : Fin 16) (upsets : List Upset) (s : State) :
    (transmitChoice phase upsets s).port.rxQueue = s.port.rxQueue := by
  unfold transmitChoice
  repeat' split
  case h_2 => simp [State.sendPublication]
  all_goals rfl

theorem State.endTx_rxQueue (s : State) (e : TxEnding) : (s.endTx e).port.rxQueue = s.port.rxQueue := by
  unfold State.endTx
  split <;> rfl

theorem segmentLinkLoss_rxQueue (s : State) : (segmentLinkLoss s).port.rxQueue = s.port.rxQueue := by
  unfold segmentLinkLoss
  split
  · exact s.endTx_rxQueue .cut
  · rfl

theorem clearCountsRequest_rxQueue (part : Option Block) (s : State) :
    (clearCountsRequest part s).port.rxQueue = s.port.rxQueue := by
  rcases clearCountsRequest_cases part s with ⟨b, e⟩ | e
  · rw [e]
    cases b <;> rfl
  · rw [e.port rfl]

theorem segmentStart_rxQueue (phase : Fin 16) (s : State) : (segmentStart phase s).port.rxQueue = s.port.rxQueue := by
  unfold segmentStart
  split <;> rfl

/-- The head of the receive queue leaves at its dispatch, and no frame joins. -/
theorem dispatch_rxQueue_length_le (straps : Fin 16) (s : State) :
    (dispatch straps s).port.rxQueue.length ≤ s.port.rxQueue.length := by
  unfold dispatch
  split
  · exact le_refl _
  next hq =>
    split
    · rw [State.deliver_rxQueue, hq, List.length_cons]
      exact Nat.le_succ _
    · exact le_refl _

/-- A frame that passes the filter joins a queue below its limit (R163). -/
theorem segmentFrameReceived_rxLimit (bytes : List Byte) (codeError : Bool) {s : State}
    (h : s.port.rxQueue.length ≤ Config.rxLimit) :
    (segmentFrameReceived bytes codeError s).port.rxQueue.length ≤ Config.rxLimit := by
  unfold segmentFrameReceived
  split
  · exact h
  · dsimp only
    split
    case h_1 =>
      unfold State.queueFrame
      split
      next hroom => simpa using hroom
      · exact h
    all_goals exact h

theorem effect_keeps_rxLimit (c : Instr) {s : State} (h : s.port.rxQueue.length ≤ Config.rxLimit) :
    (effect c s).port.rxQueue.length ≤ Config.rxLimit := by
  by_cases hc : (touched c).port = false
  · rwa [(effect_sameBut c s).port hc]
  cases c
  case powerOn straps => exact Nat.zero_le _
  case clockStep => exact (clockStep_rxQueue_length s).trans_le h
  case secondsWrite => exact (secondsWrite_rxQueue_length s).trans_le h
  case beaconTaken =>
    show (beaconTaken s).port.rxQueue.length ≤ _
    rcases beaconTaken_cases s with e | e
    · rwa [e.port rfl]
    · rw [e]
      exact (congrArg List.length (State.abandonPublication_port_receive _).2.2).trans_le h
  case transmitChoice phase upsets => exact (congrArg List.length (transmitChoice_rxQueue phase upsets s)).trans_le h
  case segmentTxEnd => exact (congrArg List.length (s.endTx_rxQueue .whole)).trans_le h
  case segmentLinkUp => exact h
  case segmentLinkLoss => exact (congrArg List.length (segmentLinkLoss_rxQueue s)).trans_le h
  case segmentFrameReceived bytes codeError => exact segmentFrameReceived_rxLimit bytes codeError h
  case dispatch straps => exact (dispatch_rxQueue_length_le straps s).trans h
  case clearCounts part => exact (congrArg List.length (clearCountsRequest_rxQueue part s)).trans_le h
  case segmentStartDelimiter phase => exact (congrArg List.length (segmentStart_rxQueue phase s)).trans_le h
  all_goals exact absurd rfl hc

end Sys2Proof.Machine
end

section
/-! ## The departure history and the sample rings keep within their sizes (R36, R44); the limits, the gate and the parts together -/

namespace Sys2Proof.Machine

set_option Elab.async false

/-! ### What each operation makes of a peer's ring -/

theorem Peer.sample_ring_length {p : Peer} (h : p.ring.length ≤ Config.ringLimit) (lim : SampleLimits) (e : EchoEntry)
    (b : BeaconIn) : (p.sample lim e b).ring.length ≤ Config.ringLimit := by
  unfold Peer.sample
  dsimp only
  split
  case h_5 =>
    simp only [Peer.accept, List.length_append, List.length_singleton]
    split
    · omega
    · simp only [List.length_drop, Config.ringLimit] at h ⊢
      omega
  all_goals exact h

/-- The ring of an entry that hears a beacon is emptied or kept before the sample (R40). -/
theorem Peer.hear_ring_length {p : Peer} (h : p.ring.length ≤ Config.ringLimit) (fresh : Bool) (own : Nat) (b : BeaconIn) (n : Nat)
    (lim : SampleLimits) : (p.hear fresh own b n lim).ring.length ≤ Config.ringLimit := by
  unfold Peer.hear
  extract_lets taken p1 k p2 p3 p4 p6
  have hdrop (q : Peer) : q.dropRing.ring.length ≤ Config.ringLimit := Nat.zero_le _
  have h2 : p2.ring.length ≤ Config.ringLimit := by
    show p1.ring.length ≤ _
    unfold p1
    split
    · exact Nat.zero_le _
    · exact h
  have h3 : p3.ring.length ≤ Config.ringLimit := by
    unfold p3
    split
    · exact h2
    · rcases p2.numberStep_cases b.beacon.number with e | ⟨k, e⟩ <;> rw [e]
      · exact hdrop p2
      · exact h2
  have h4 : p4.ring.length ≤ Config.ringLimit := by
    unfold p4
    split
    · exact hdrop p3
    · exact h3
  have h6 : p6.ring.length ≤ Config.ringLimit := h4
  split
  · exact h6
  · split
    · exact Peer.sample_ring_length h6 _ _ _
    · exact h6

/-! ### The Agreement Unit -/

/-- The departure history and every sample ring within their sizes. -/
def Agreement.WithinLimits (a : Agreement) : Prop :=
  a.departures.length ≤ Config.historyLimit ∧ ∀ p ∈ a.peers, p.ring.length ≤ Config.ringLimit

theorem Agreement.withinLimits_of_nil {a : Agreement} (hdepartures : a.departures = []) (hpeers : a.peers = []) :
    a.WithinLimits := by
  simp [Agreement.WithinLimits, hdepartures, hpeers]

/-- A history no longer, and entries none of which has a longer ring than one that was there. -/
theorem Agreement.WithinLimits.of_le {a b : Agreement} (h : a.WithinLimits)
    (hdepartures : b.departures.length ≤ a.departures.length)
    (hpeers : ∀ q ∈ b.peers, ∃ p ∈ a.peers, q.ring.length ≤ p.ring.length) : b.WithinLimits := by
  refine ⟨hdepartures.trans h.1, fun q hq => ?_⟩
  obtain ⟨p, hp, hle⟩ := hpeers q hq
  exact hle.trans (h.2 p hp)

theorem Agreement.WithinLimits.of_eq {a b : Agreement} (h : a.WithinLimits) (hdepartures : b.departures = a.departures)
    (hpeers : b.peers = a.peers) : b.WithinLimits :=
  h.of_le (by rw [hdepartures]) fun q hq => ⟨q, hpeers ▸ hq, le_refl _⟩

/-- Entries rewritten in place with rings no longer. -/
theorem Agreement.WithinLimits.of_map {a b : Agreement} (h : a.WithinLimits)
    (hdepartures : b.departures.length ≤ a.departures.length) {f : Peer → Peer}
    (hf : ∀ p, (f p).ring.length ≤ p.ring.length) (hpeers : b.peers = a.peers.map f) : b.WithinLimits := by
  refine h.of_le hdepartures fun q hq => ?_
  obtain ⟨p, hp, rfl⟩ := List.mem_map.1 (hpeers ▸ hq)
  exact ⟨p, hp, hf p⟩

theorem appendDeparture_length {ds : List CageTime} (h : ds.length ≤ Config.historyLimit) (d : CageTime) :
    (appendDeparture ds d).length ≤ Config.historyLimit := by
  unfold appendDeparture
  split
  · simpa using by assumption
  · simp only [List.length_append, List.length_drop, List.length_singleton, Config.historyLimit] at h ⊢
    omega

theorem State.discardSamples_withinLimits {s : State} (h : s.agr.WithinLimits) : s.discardSamples.agr.WithinLimits :=
  h.of_map (Nat.zero_le _) (f := Peer.atBoundary) (fun _ => Nat.zero_le _) rfl

theorem State.hearBeacon_withinLimits {s : State} (h : s.agr.WithinLimits) (b : BeaconIn) : (s.hearBeacon b).agr.WithinLimits := by
  unfold State.hearBeacon
  extract_lets hear peers agr p
  split
  · split
    · exact h
    · split
      · exact Agreement.withinLimits_of_nil rfl rfl
      · exact h.of_eq rfl rfl
  · split
    · refine ⟨h.1, fun q hq => ?_⟩
      obtain ⟨p, hp, rfl⟩ := List.mem_map.1 hq
      split
      · exact Peer.hear_ring_length (h.2 p hp) _ _ _ _ _
      · exact h.2 p hp
    · split
      · refine ⟨h.1, fun q hq => ?_⟩
        rcases List.mem_append.1 hq with hq | hq
        · exact h.2 q hq
        · rw [List.mem_singleton.1 hq]
          exact Peer.hear_ring_length (Nat.zero_le _) _ _ _ _ _
      · exact h.of_eq rfl rfl

theorem State.checkNumber_withinLimits {s : State} (h : s.agr.WithinLimits) (station : Nat) (identity : Identity) (n : Nat) :
    (s.checkNumber station identity n).agr.WithinLimits := by
  unfold State.checkNumber
  split
  · refine h.of_map (le_refl _) (f := fun p => if p.isOf station identity then p.checkNumber n else p) (fun p => ?_) rfl
    split <;> exact le_refl _
  · exact h

theorem dispatch_withinLimits (straps : Fin 16) {s : State} (h : s.agr.WithinLimits) : (dispatch straps s).agr.WithinLimits := by
  unfold dispatch
  split
  · exact h
  next f rest _ =>
    split
    · cases readFrame f.bytes with
      | publication station identity number records =>
        have hk := State.checkNumber_withinLimits (s := { s with port := { s.port with rxQueue := rest } }) h station identity
          number
        unfold State.deliver State.handFrame
        dsimp only
        split <;> exact hk
      | request target q =>
        unfold State.deliver State.requestArrives State.restartArrives
        dsimp only
        repeat' split
        case isTrue.isTrue.isFalse => exact Agreement.withinLimits_of_nil rfl rfl
        all_goals exact h
      | _ => exact h.of_eq rfl rfl
    · exact h

theorem beaconTaken_withinLimits {s : State} (h : s.agr.WithinLimits) : (beaconTaken s).agr.WithinLimits := by
  unfold beaconTaken
  split
  · exact h
  · dsimp only
    split
    · refine State.hearBeacon_withinLimits ?_ _
      exact h.of_eq rfl rfl
    · exact h.of_eq rfl rfl

theorem clockStep_withinLimits {s : State} (h : s.agr.WithinLimits) : (clockStep s).agr.WithinLimits := by
  unfold clockStep
  split
  · exact h
  next p _ =>
    split
    · have hdiscard := State.discardSamples_withinLimits (s := { s with clock := s.clock.applyStep p.correction }) h
      dsimp only
      split <;> exact hdiscard.of_eq rfl rfl
    · exact h

theorem secondsWrite_withinLimits {s : State} (h : s.agr.WithinLimits) : (secondsWrite s).agr.WithinLimits := by
  unfold secondsWrite
  split
  · exact h
  · split
    · split
      · exact (State.discardSamples_withinLimits h).of_eq rfl rfl
      · exact h
    · exact h

theorem beaconTimerExpiry_withinLimits {s : State} (h : s.agr.WithinLimits) : (beaconTimerExpiry s).agr.WithinLimits := by
  unfold beaconTimerExpiry Agreement.makeDue
  split
  · split <;> exact h.of_eq rfl rfl
  · exact h

theorem silenceDeadline_withinLimits (n : Fin 16) {s : State} (h : s.agr.WithinLimits) :
    (silenceDeadline n s).agr.WithinLimits := by
  unfold silenceDeadline
  split
  · exact h
  · split
    · split
      · exact h.of_le (le_refl _) fun q hq => ⟨q, List.mem_of_mem_filter hq, le_refl _⟩
      · refine h.of_map (le_refl _) (f := fun q => if q.station = n.val then _ else q) (fun q => ?_) rfl
        split <;> exact le_refl _
    · exact h

theorem roundEnd_withinLimits {s : State} (h : s.agr.WithinLimits) : (roundEnd s).agr.WithinLimits := by
  unfold roundEnd State.roundInAcquire
  dsimp only
  repeat' split
  all_goals exact h.of_eq rfl rfl

theorem transmitChoice_agreementLimits (phase : Fin 16) (upsets : List Upset) {s : State} (h : s.agr.WithinLimits) :
    (transmitChoice phase upsets s).agr.WithinLimits := by
  unfold transmitChoice
  split
  · split
    · exact ⟨appendDeparture_length h.1 _, h.2⟩
    · split
      · exact h
      · split
        · exact h
        · simpa [State.sendPublication] using h
        · exact h
  · exact h

theorem segmentLinkLoss_agreementLimits {s : State} (h : s.agr.WithinLimits) : (segmentLinkLoss s).agr.WithinLimits := by
  unfold segmentLinkLoss Agreement.skipDue
  dsimp only
  repeat' split
  all_goals exact h.of_eq (by simp) (by simp)

theorem clearCountsRequest_agreementLimits (part : Option Block) {s : State} (h : s.agr.WithinLimits) :
    (clearCountsRequest part s).agr.WithinLimits := by
  rcases clearCountsRequest_cases part s with ⟨b, e⟩ | e
  · rw [e]
    cases b with
    | agreement =>
      exact h.of_map (le_refl _) (f := fun p => { p with counts := p.counts.clearBeacons }) (fun _ => le_refl _) rfl
    | port => exact h.of_map (le_refl _) (f := fun p => { p with counts := p.counts.clearFrames }) (fun _ => le_refl _) rfl
    | _ => exact h
  · rwa [e.agr rfl]

theorem imageReadDone_withinLimits (flash : List Byte) {s : State} (h : s.agr.WithinLimits) :
    (imageReadDone flash s).agr.WithinLimits := by
  unfold imageReadDone State.accept Agreement.accepted Agreement.makeDue
  repeat' split
  all_goals exact h.of_eq rfl rfl

theorem effect_keeps_agreementLimits (c : Instr) {s : State} (h : s.agr.WithinLimits) : (effect c s).agr.WithinLimits := by
  by_cases hc : (touched c).agr = false
  · rwa [(effect_sameBut c s).agr hc]
  cases c
  case powerOn straps => exact Agreement.withinLimits_of_nil rfl rfl
  case clockStep => exact clockStep_withinLimits h
  case secondsWrite => exact secondsWrite_withinLimits h
  case beaconTimerExpiry => exact beaconTimerExpiry_withinLimits h
  case beaconTaken => exact beaconTaken_withinLimits h
  case silenceDeadline n => exact silenceDeadline_withinLimits n h
  case roundEnd => exact roundEnd_withinLimits h
  case transmitChoice phase upsets => exact transmitChoice_agreementLimits phase upsets h
  case segmentLinkLoss => exact segmentLinkLoss_agreementLimits h
  case dispatch straps => exact dispatch_withinLimits straps h
  case clearCounts part => exact clearCountsRequest_agreementLimits part h
  case imageReadDone flash => exact imageReadDone_withinLimits flash h
  all_goals exact absurd rfl hc

/-! ### The three invariants together -/

/-- The limits, block by block. -/
theorem State.withinLimits_iff (s : State) :
    s.WithinLimits ↔ s.pub.WithinLimits ∧ s.port.rxQueue.length ≤ Config.rxLimit ∧ s.req.WithinLimits ∧ s.agr.WithinLimits ∧
      s.feeds.length ≤ feedLimit := by
  simp only [State.WithinLimits, Publisher.WithinLimits, ReqHandler.WithinLimits, Agreement.WithinLimits, and_assoc]

theorem effect_keeps_limits (c : Instr) (s : State) (h : s.WithinLimits) : (effect c s).WithinLimits := by
  obtain ⟨hpub, hport, hreq, hagr, hfeeds⟩ := s.withinLimits_iff.1 h
  exact (State.withinLimits_iff _).2 ⟨effect_keeps_publisher c hpub hfeeds, effect_keeps_rxLimit c hport,
    (effect_req c s).keeps (fun _ _ => ReqHandler.Event.withinLimits) hreq, effect_keeps_agreementLimits c hagr,
    effect_keeps_feedLimit c hfeeds⟩

theorem effect_keeps_gate (c : Instr) (s : State) (h : s.req.GateSound) : (effect c s).req.GateSound :=
  (effect_req c s).keeps (fun _ _ => ReqHandler.Event.gateSound) h

theorem effect_keeps_parts (c : Instr) (s : State) (h : s.req.PartsSound) : (effect c s).req.PartsSound :=
  (effect_req c s).keeps (fun _ _ => ReqHandler.Event.partsSound) h

/-- Settles O52: the limits block by block; the gate and the parts by the events of the Request Handler. -/
theorem limitsAndGateKept : Obligations.LimitsAndGateKept := by
  intro s t hstep
  exact ⟨step_keeps (P := State.WithinLimits) (fun _ _ h => h) effect_keeps_limits hstep,
    step_keeps (P := fun s => s.req.GateSound) (fun _ _ h => h) effect_keeps_gate hstep,
    step_keeps (P := fun s => s.req.PartsSound) (fun _ _ h => h) effect_keeps_parts hstep⟩

end Sys2Proof.Machine
end

section
/-! ## Every step keeps what the station state fixes (R34, R39, R47, R53, R186, R188, R190, R192, R193) -/

namespace Sys2Proof.Machine

set_option Elab.async false

/-! ### The Loader with the feed map, and the Agreement Unit -/

/-- The image status, the image in force and the feed map belong to the Loader's state. -/
structure Loader.Fits (l : Loader) (feeds : List FeedSlot) : Prop where
  status : l.imageStatus.fits l.state
  config : l.config.isSome = l.state.hasImage
  feeds : l.state.hasImage = false → feeds = []

/-- The timers, the due beacon, the peer table and the wait for the ACQUIRE step belong to a station state. -/
structure Agreement.Fits (a : Agreement) (st : StationState) : Prop where
  beaconTimer : a.beaconTimer.isSome = st.beacons
  roundTimer : a.roundTimer.isSome = st.beacons
  idle : st.beacons = false → a.beaconDue = false ∧ a.peers = []
  wait : a.servingAfterStep.isSome = true → st = .acquire

theorem State.stateSound_iff (s : State) : s.StateSound ↔ s.loader.Fits s.feeds ∧ s.agr.Fits s.loader.state :=
  ⟨fun ⟨h1, h2, h3, h4, h5, h6, h7⟩ => ⟨⟨h1, h2, h3⟩, ⟨h4, h5, h6, h7⟩⟩,
    fun ⟨⟨h1, h2, h3⟩, ⟨h4, h5, h6, h7⟩⟩ => ⟨h1, h2, h3, h4, h5, h6, h7⟩⟩

theorem StationState.hasImage_of_beacons {st : StationState} (h : st.beacons = true) : st.hasImage = true := by
  cases st <;> trivial

/-- Where an image is in force its status is ACCEPTED (R190, R193). -/
theorem ImageStatus.fits_iff_of_hasImage {i : ImageStatus} {st : StationState} (h : st.hasImage = true) :
    i.fits st ↔ i = .accepted := by
  cases i with
  | loading => exact iff_of_false (by rintro rfl; cases h) nofun
  | accepted => exact iff_of_true (by unfold ImageStatus.fits; cases st <;> simp [StationState.hasImage] at h ⊢) rfl
  | rejected cause => exact iff_of_false (by rintro rfl; cases h) nofun

/-- A change of state among those with an image in force. -/
theorem Loader.Fits.changeState {l : Loader} {feeds : List FeedSlot} (h : l.Fits feeds) (hold : l.state.hasImage = true)
    {st : StationState} (hnew : st.hasImage = true) (feeds' : List FeedSlot) : ({ l with state := st } : Loader).Fits feeds' := by
  have hstatus := (ImageStatus.fits_iff_of_hasImage hold).1 h.status
  exact ⟨(ImageStatus.fits_iff_of_hasImage hnew).2 hstatus, by rw [h.config, hold, hnew], by simp [hnew]⟩

theorem Loader.Fits.of_feeds_le {l : Loader} {feeds feeds' : List FeedSlot} (h : l.Fits feeds)
    (hle : feeds'.length ≤ feeds.length) : l.Fits feeds' :=
  ⟨h.status, h.config, fun hs => List.length_eq_zero_iff.1 (by simpa [h.feeds hs] using hle)⟩

/-! ### What most commands keep of the Agreement Unit -/

/-- The timers run as they did, no beacon has become due, no entry has been made, and no wait for a step has begun. -/
structure Agreement.Keeps (a b : Agreement) : Prop where
  beaconTimer : b.beaconTimer.isSome = a.beaconTimer.isSome
  roundTimer : b.roundTimer.isSome = a.roundTimer.isSome
  due : a.beaconDue = false → b.beaconDue = false
  peers : a.peers = [] → b.peers = []
  wait : b.servingAfterStep.isSome = true → a.servingAfterStep.isSome = true

theorem Agreement.Keeps.refl (a : Agreement) : a.Keeps a := ⟨rfl, rfl, id, id, id⟩

/-- The peer table alone rewritten, entry by entry, with the date history and what else no correspondence reads. -/
theorem Agreement.keeps_of_map {a b : Agreement} (f : Peer → Peer) (hpeers : b.peers = a.peers.map f)
    (hbeacon : b.beaconTimer = a.beaconTimer) (hround : b.roundTimer = a.roundTimer) (hdue : b.beaconDue = a.beaconDue)
    (hwait : b.servingAfterStep = a.servingAfterStep) : a.Keeps b :=
  ⟨by rw [hbeacon], by rw [hround], by rw [hdue]; exact id, fun h => by rw [hpeers, h, List.map_nil], by rw [hwait]; exact id⟩

theorem Agreement.Fits.of_keeps {a b : Agreement} {st : StationState} (h : a.Fits st) (k : a.Keeps b) : b.Fits st where
  beaconTimer := k.beaconTimer.trans h.beaconTimer
  roundTimer := k.roundTimer.trans h.roundTimer
  idle hs := ⟨k.due (h.idle hs).1, k.peers (h.idle hs).2⟩
  wait hw := h.wait (k.wait hw)

/-- Where beacons are taken and sent, a due beacon and peers fit too. -/
theorem Agreement.fits_of_beacons {a : Agreement} {st : StationState} (hs : st.beacons = true)
    (hbeacon : a.beaconTimer.isSome = true) (hround : a.roundTimer.isSome = true)
    (hwait : a.servingAfterStep.isSome = true → st = .acquire) : a.Fits st :=
  ⟨by rw [hs, hbeacon], by rw [hs, hround], by simp [hs], hwait⟩

/-- Where they are not, the Agreement Unit is idle. -/
theorem Agreement.fits_of_idle {a : Agreement} {st : StationState} (hs : st.beacons = false) (hbeacon : a.beaconTimer = none)
    (hround : a.roundTimer = none) (hdue : a.beaconDue = false) (hpeers : a.peers = []) (hwait : a.servingAfterStep = none) :
    a.Fits st :=
  ⟨by simp [hs, hbeacon], by simp [hs, hround], fun _ => ⟨hdue, hpeers⟩, by simp [hwait]⟩

theorem isSome_of_due {d : Option Nat} {now : Nat} (h : due d now = true) : d.isSome = true := by
  cases d <;> simp_all [due]

/-! ### The commands that change the station state -/

/-- A wait for the ACQUIRE step is of ACQUIRE, so the step takes the station to SERVING from there (R53). -/
theorem clockStep_stateSound {s : State} (h : s.StateSound) : (clockStep s).StateSound := by
  obtain ⟨hl, ha⟩ := s.stateSound_iff.1 h
  unfold clockStep
  split
  · exact h
  · split
    · dsimp only
      split
      next cls hw =>
        have hs : s.loader.state = .acquire := ha.wait (by simp [hw])
        refine (State.stateSound_iff _).2 ⟨hl.changeState (by simp [hs, StationState.hasImage]) rfl _, ?_⟩
        refine Agreement.fits_of_beacons rfl ?_ ?_ nofun
        · exact ha.beaconTimer.trans (by simp [hs, StationState.beacons])
        · exact ha.roundTimer.trans (by simp [hs, StationState.beacons])
      · exact (State.stateSound_iff _).2 ⟨hl, ha.of_keeps (Agreement.keeps_of_map Peer.atBoundary rfl rfl rfl rfl rfl)⟩
    · exact h

/-- The round timer runs where beacons are sent; there a round end restarts it, and moves LISTEN to ACQUIRE and ACQUIRE to SERVING
(R47, R52, R53). -/
theorem roundEnd_stateSound {s : State} (h : s.StateSound) : (roundEnd s).StateSound := by
  obtain ⟨hl, ha⟩ := s.stateSound_iff.1 h
  unfold roundEnd
  split
  next hdue =>
    have hs : s.loader.state.beacons = true := ha.roundTimer.symm.trans (isSome_of_due hdue)
    have himage := StationState.hasImage_of_beacons hs
    have hbeacon : s.agr.beaconTimer.isSome = true := ha.beaconTimer.trans hs
    dsimp only
    split
    next hst =>
      have hno : ¬ s.agr.servingAfterStep.isSome = true := fun hw => by simpa [hst] using ha.wait hw
      refine (State.stateSound_iff _).2 ?_
      unfold State.roundInListen
      dsimp only
      split
      · exact ⟨hl.changeState himage rfl _, Agreement.fits_of_beacons rfl hbeacon rfl fun hw => absurd hw hno⟩
      · exact ⟨hl, Agreement.fits_of_beacons hs hbeacon rfl fun hw => absurd hw hno⟩
    next hst =>
      refine (State.stateSound_iff _).2 ?_
      unfold State.roundInAcquire
      split
      · exact ⟨hl, Agreement.fits_of_beacons hs hbeacon rfl fun _ => hst⟩
      · exact ⟨hl.changeState himage rfl _, Agreement.fits_of_beacons rfl hbeacon rfl nofun⟩
    · exact (State.stateSound_iff _).2 ⟨hl, Agreement.fits_of_beacons hs hbeacon rfl ha.wait⟩
    all_goals next hst => simp [hst, StationState.beacons] at hs
  · exact h

theorem State.enterConflict_stateSound {s : State} (h : s.StateSound) (hs : s.loader.state.beacons = true) :
    s.enterConflict.StateSound := by
  obtain ⟨hl, -⟩ := s.stateSound_iff.1 h
  refine (State.stateSound_iff _).2 ?_
  rw [State.enterConflict_loader]
  exact ⟨hl.changeState (StationState.hasImage_of_beacons hs) rfl _, Agreement.fits_of_idle rfl rfl rfl rfl rfl rfl⟩

theorem State.hearBeacon_stateSound {s : State} (h : s.StateSound) (hs : s.loader.state.beacons = true) (b : BeaconIn) :
    (s.hearBeacon b).StateSound := by
  obtain ⟨hl, ha⟩ := s.stateSound_iff.1 h
  have hfits {a : Agreement} (hbeacon : a.beaconTimer = s.agr.beaconTimer) (hround : a.roundTimer = s.agr.roundTimer)
      (hwait : a.servingAfterStep = s.agr.servingAfterStep) : a.Fits s.loader.state :=
    Agreement.fits_of_beacons hs (by rw [hbeacon, ha.beaconTimer, hs]) (by rw [hround, ha.roundTimer, hs])
      (by rw [hwait]; exact ha.wait)
  unfold State.hearBeacon
  dsimp only
  split
  · split
    · exact h
    · split
      · exact State.enterConflict_stateSound h hs
      · exact (State.stateSound_iff _).2 ⟨hl, hfits rfl rfl rfl⟩
  · split
    · exact (State.stateSound_iff _).2 ⟨hl, hfits rfl rfl rfl⟩
    · split <;> exact (State.stateSound_iff _).2 ⟨hl, hfits rfl rfl rfl⟩

theorem beaconTaken_stateSound {s : State} (h : s.StateSound) : (beaconTaken s).StateSound := by
  unfold beaconTaken
  split
  · exact h
  · dsimp only
    have htaken : ({ s with agr := { s.agr with inbox := none } } : State).StateSound := h
    split
    next hs => exact State.hearBeacon_stateSound htaken hs _
    · exact htaken

/-- A RESTART leaves the station in LOADING with nothing in force (R194). -/
theorem State.restart_stateSound (s : State) (straps : Nat) : (s.restart straps).StateSound := by
  refine (State.stateSound_iff _).2 ⟨?_, ?_⟩
  · rw [State.restart_loader, State.restart_feeds]
    exact ⟨rfl, rfl, fun _ => rfl⟩
  · rw [State.restart_loader, State.restart_agr]
    exact Agreement.fits_of_idle rfl rfl rfl rfl rfl rfl

theorem State.requestArrives_stateSound {s : State} (h : s.StateSound) (q : Request) (straps : Fin 16) :
    (s.requestArrives q straps).StateSound := by
  unfold State.requestArrives State.restartArrives
  dsimp only
  split
  · split
    · exact h
    · exact State.restart_stateSound _ _
  · exact h

theorem State.checkNumber_stateSound {s : State} (h : s.StateSound) (station : Nat) (identity : Identity) (n : Nat) :
    (s.checkNumber station identity n).StateSound := by
  obtain ⟨hl, ha⟩ := s.stateSound_iff.1 h
  unfold State.checkNumber
  split
  · exact (State.stateSound_iff _).2 ⟨hl, ha.of_keeps (Agreement.keeps_of_map _ rfl rfl rfl rfl rfl)⟩
  · exact h

theorem State.deliver_stateSound {s : State} (h : s.StateSound) (f : RxFrame) (d : Dispatched) (straps : Fin 16) :
    (s.deliver f d straps).StateSound := by
  cases d with
  | publication station identity number records =>
    have hk := State.checkNumber_stateSound h station identity number
    unfold State.deliver State.handFrame
    dsimp only
    split <;> exact hk
  | request target q =>
    unfold State.deliver
    dsimp only
    split
    · exact State.requestArrives_stateSound h q straps
    · exact h
  | _ => exact h

theorem dispatch_stateSound (straps : Fin 16) {s : State} (h : s.StateSound) : (dispatch straps s).StateSound := by
  unfold dispatch
  split
  · exact h
  · split
    · exact State.deliver_stateSound (by exact h) _ _ _
    · exact h

/-- An image accepted starts the timers in LISTEN; one refused leaves the station in HALTED with none (R34, R47, R190, R192). -/
theorem imageReadDone_stateSound (flash : List Byte) {s : State} (h : s.StateSound) : (imageReadDone flash s).StateSound := by
  obtain ⟨hl, ha⟩ := s.stateSound_iff.1 h
  unfold imageReadDone
  split
  next hs =>
    have himage : s.loader.state.hasImage = false := by simp [hs, StationState.hasImage]
    have hno : ¬ s.agr.servingAfterStep.isSome = true := fun hw => by simpa [hs] using ha.wait hw
    split
    · refine (State.stateSound_iff _).2 ⟨⟨rfl, hl.config.trans himage, fun _ => hl.feeds himage⟩, ?_⟩
      rw [hs] at ha
      exact ⟨ha.beaconTimer, ha.roundTimer, ha.idle, fun hw => absurd hw hno⟩
    · refine (State.stateSound_iff _).2 ⟨⟨.inl rfl, rfl, nofun⟩, ?_⟩
      unfold State.accept
      rw [Agreement.accepted_eq]
      exact Agreement.fits_of_beacons rfl rfl rfl fun hw => absurd hw hno
  · exact h

/-! ### The commands that do not -/

theorem silenceDeadline_keeps (n : Fin 16) (s : State) : s.agr.Keeps (silenceDeadline n s).agr := by
  unfold silenceDeadline
  split
  · exact .refl _
  · split
    · split
      · exact ⟨rfl, rfl, id, fun h => by simp [h], id⟩
      · exact Agreement.keeps_of_map _ rfl rfl rfl rfl rfl
    · exact .refl _

theorem secondsWrite_keeps (s : State) : s.agr.Keeps (secondsWrite s).agr := by
  unfold secondsWrite
  split
  · exact .refl _
  · split
    · split
      · exact Agreement.keeps_of_map Peer.atBoundary rfl rfl rfl rfl rfl
      · exact .refl _
    · exact .refl _

theorem transmitChoice_keeps (phase : Fin 16) (upsets : List Upset) (s : State) :
    s.agr.Keeps (transmitChoice phase upsets s).agr := by
  unfold transmitChoice
  repeat' split
  case isTrue.isTrue => exact ⟨rfl, rfl, fun _ => rfl, id, id⟩
  case h_2 => simpa [State.sendPublication] using Agreement.Keeps.refl s.agr
  all_goals exact .refl _

theorem segmentLinkLoss_keeps (s : State) : s.agr.Keeps (segmentLinkLoss s).agr := by
  unfold segmentLinkLoss
  split
  · dsimp only
    rw [State.endTx_agr]
    unfold Agreement.skipDue
    split
    · exact ⟨rfl, rfl, fun _ => rfl, id, id⟩
    · exact .refl _
  · exact .refl _

theorem clearCountsRequest_keeps (part : Option Block) (s : State) : s.agr.Keeps (clearCountsRequest part s).agr := by
  rcases clearCountsRequest_cases part s with ⟨b, e⟩ | e
  · rw [e]
    cases b with
    | agreement => exact Agreement.keeps_of_map (fun p => { p with counts := p.counts.clearBeacons }) rfl rfl rfl rfl rfl
    | port => exact Agreement.keeps_of_map (fun p => { p with counts := p.counts.clearFrames }) rfl rfl rfl rfl rfl
    | _ => exact .refl _
  · rw [e.agr rfl]
    exact .refl _

/-- The beacon timer runs only where beacons are sent, so its expiry makes one due only there (R34). -/
theorem beaconTimerExpiry_stateSound {s : State} (h : s.StateSound) : (beaconTimerExpiry s).StateSound := by
  obtain ⟨hl, ha⟩ := s.stateSound_iff.1 h
  unfold beaconTimerExpiry
  split
  next hdue =>
    have hs : s.loader.state.beacons = true := ha.beaconTimer.symm.trans (isSome_of_due hdue)
    refine (State.stateSound_iff _).2 ⟨hl, ?_⟩
    unfold Agreement.makeDue
    split <;> exact Agreement.fits_of_beacons hs rfl (ha.roundTimer.trans hs) ha.wait
  · exact h

/-- Every command keeps what the station state fixes. -/
theorem effect_keeps_state (c : Instr) (s : State) (h : s.StateSound) : (effect c s).StateSound := by
  obtain ⟨hl, ha⟩ := s.stateSound_iff.1 h
  have hkept (hc : ∀ flash, c ≠ .imageReadDone flash) (hloader : (touched c).loader = false) (k : s.agr.Keeps (effect c s).agr) :
      (effect c s).StateSound := by
    have e := (effect_sameBut c s).loader hloader
    refine (State.stateSound_iff _).2 ⟨?_, ?_⟩
    · rw [e]; exact hl.of_feeds_le (effect_feeds_length_le c s hc)
    · rw [e]; exact ha.of_keeps k
  by_cases ht : (touched c).loader = false ∧ (touched c).agr = false
  · refine hkept ?_ ht.1 ?_
    · rintro flash rfl; cases ht.1
    · rw [(effect_sameBut c s).agr ht.2]; exact .refl _
  cases c
  case powerOn straps =>
    exact (State.stateSound_iff _).2 ⟨⟨rfl, rfl, fun _ => rfl⟩, Agreement.fits_of_idle rfl rfl rfl rfl rfl rfl⟩
  case clockStep => exact clockStep_stateSound h
  case secondsWrite => exact hkept nofun rfl (secondsWrite_keeps s)
  case beaconTimerExpiry => exact beaconTimerExpiry_stateSound h
  case beaconTaken => exact beaconTaken_stateSound h
  case silenceDeadline n => exact hkept nofun rfl (silenceDeadline_keeps n s)
  case roundEnd => exact roundEnd_stateSound h
  case transmitChoice phase upsets => exact hkept nofun rfl (transmitChoice_keeps phase upsets s)
  case segmentLinkLoss => exact hkept nofun rfl (segmentLinkLoss_keeps s)
  case dispatch straps => exact dispatch_stateSound straps h
  case clearCounts part => exact hkept nofun rfl (clearCountsRequest_keeps part s)
  case imageReadDone flash => exact imageReadDone_stateSound flash h
  all_goals exact absurd ⟨rfl, rfl⟩ ht

/-- Settles O55: each command keeps the correspondence, and it does not look at the commands that wait. -/
theorem stateCorrespondenceKept : Obligations.StateCorrespondenceKept := by
  intro s t h hstep
  exact step_keeps (P := State.StateSound) (fun _ _ h => h) effect_keeps_state hstep h

end Sys2Proof.Machine
end

section
/-! ## The beacon timer, the silence deadline and the samples (R34, R42 to R44, R46) -/

namespace Sys2Proof.Machine

set_option Elab.async false

/-! ### The beacon timer (R34) -/

theorem beaconTimerExpiry_early {s : State} {d : Nat} (htimer : s.agr.beaconTimer = some d) (h : s.clock.tick < d) :
    beaconTimerExpiry s = s := by
  simp [beaconTimerExpiry, htimer, due_some, h]

theorem beaconTimerExpiry_due {s : State} {d : Nat} (htimer : s.agr.beaconTimer = some d) (h : d ≤ s.clock.tick) :
    beaconTimerExpiry s =
      { s with agr := { s.agr with beaconTimer := some (s.clock.tick + s.beaconTicks) }.makeDue s.port.link } := by
  simp [beaconTimerExpiry, htimer, due_some, h]

/-- Settles O22. -/
theorem beaconTimerMakesDue : Obligations.BeaconTimerMakesDue := by
  intro s cfg d hcfg htimer
  have hticks := State.beaconTicks_of_image hcfg
  simp only [exec_eq_effect, effect]
  refine ⟨hticks, fun h => ?_, fun h hlink => ?_, fun h hlink => ?_⟩
  · rw [beaconTimerExpiry_early htimer h]
  · rw [beaconTimerExpiry_due htimer h, hlink, hticks]
    rfl
  · rw [beaconTimerExpiry_due htimer h, hlink, hticks]
    rfl

/-! ### One entry for each number (section 3.5) -/

/-- In a sound table an entry is known by its number. -/
theorem State.PeersSound.eq_of_station {s : State} (h : s.PeersSound) {p q : Peer} (hp : p ∈ s.agr.peers) (hq : q ∈ s.agr.peers)
    (e : q.station = p.station) : q = p :=
  List.inj_on_of_nodup_map h.1 hq hp e

theorem State.PeersSound.station_eq_iff {s : State} (h : s.PeersSound) {p : Peer} (hp : p ∈ s.agr.peers) :
    ∀ q ∈ s.agr.peers, q.station = p.station ↔ q = p :=
  fun _ hq => ⟨h.eq_of_station hp hq, fun e => e ▸ rfl⟩

theorem State.PeersSound.find?_station {s : State} (h : s.PeersSound) {p : Peer} (hp : p ∈ s.agr.peers) :
    s.agr.peers.find? (fun q => decide (q.station = p.station)) = some p := by
  have hsome : (s.agr.peers.find? (fun q => decide (q.station = p.station))).isSome = true :=
    List.find?_isSome.2 ⟨p, hp, by simp⟩
  obtain ⟨q, hq⟩ := Option.isSome_iff_exists.1 hsome
  have hstation : q.station = p.station := by simpa using List.find?_some hq
  rw [hq, h.eq_of_station hp (List.mem_of_find?_eq_some hq) hstation]

/-! ### The silence deadline (R46) -/

/-- Settles O26: the entry found is the one of the number, and no other entry is rewritten. -/
theorem silenceDeadlineFalls : Obligations.SilenceDeadlineFalls := by
  intro n s p hsound hp hn
  have hfind := hsound.find?_station hp
  have hiff := hsound.station_eq_iff hp
  rw [hn] at hfind hiff
  simp only [exec_eq_effect, effect, silenceDeadline, hfind]
  refine ⟨fun h => ?_, fun h hs => ?_, fun h hs => ?_⟩
  · rw [if_neg (Nat.not_le.2 h)]
  · rw [if_pos h, if_neg hs]
    congr 3
    refine List.map_congr_left fun q hq => ?_
    by_cases e : q = p
    · rw [if_pos ((hiff q hq).2 e), if_pos e, e]
    · rw [if_neg (mt (hiff q hq).1 e), if_neg e]
  · rw [if_pos h, if_pos hs]
    congr 3
    refine List.filter_congr fun q hq => ?_
    exact decide_eq_decide.2 (not_congr (hiff q hq))

/-! ### Samples (R42 to R44) -/

theorem State.sampleLimits_of_image {s : State} {cfg : ImageCfg} (h : s.loader.config = some cfg) :
    s.sampleLimits = {
      twoB := 2 * ((cfg.beaconMs : Int) * 4000000), minDelay := (cfg.minDelayNs : Int) * 4,
      maxDelay := (cfg.maxDelayUs : Int) * 4000, departures := s.agr.departures } := by
  have htwoB : (cfg.beaconMs : Int) * 8000000 = 2 * (cfg.beaconMs * 4000000) := by omega
  simp only [State.sampleLimits, State.beaconMs_of_image h, h, htwoB]

/-- The difference of two dates is exact but for whole turns of the seconds field (R42). -/
theorem CageTime.diff_spec (a b : CageTime) : ∃ k : Int, -140737488355328 ≤ k ∧ k < 140737488355328 ∧
    ((a.sec : Int) - b.sec - k) % 281474976710656 = 0 ∧
    a.diff b = k * 4000000000 + ((a.ns : Int) * 4 + a.quarter) - ((b.ns : Int) * 4 + b.quarter) := by
  refine ⟨((a.sec : Int) - b.sec + 140737488355328) % 281474976710656 - 140737488355328, by omega, by omega, by omega, rfl⟩

/-- A sample whose turn fits and whose first date departed from here is judged by its delay alone. -/
theorem checkSample_of_known {lim : SampleLimits} {t1 t2 t3 t4 : CageTime} (hlo : 0 ≤ t3.diff t2) (hhi : t3.diff t2 ≤ lim.twoB)
    (hmem : t1 ∈ lim.departures) :
    checkSample lim t1 t2 t3 t4 =
      if sampleDelay t1 t2 t3 t4 < lim.minDelay then .delayLow
      else if lim.maxDelay < sampleDelay t1 t2 t3 t4 then .delayHigh else .accepted := by
  rw [checkSample, if_neg (by omega), if_neg (not_not_intro hmem)]

section Sample

variable {p : Peer} {lim : SampleLimits} {e : EchoEntry} {b : BeaconIn}

theorem Peer.sample_staleEcho (h : checkSample lim e.t1 e.t2 b.beacon.departure b.arrival = .staleEcho) :
    p.sample lim e b = { p with counts := { p.counts with staleEchoes := bump p.counts.staleEchoes } } := by
  unfold Peer.sample; rw [h]

theorem Peer.sample_unknownEcho (h : checkSample lim e.t1 e.t2 b.beacon.departure b.arrival = .unknownEcho) :
    p.sample lim e b = { p with counts := { p.counts with unknownEchoes := bump p.counts.unknownEchoes } } := by
  unfold Peer.sample; rw [h]

theorem Peer.sample_delayLow (h : checkSample lim e.t1 e.t2 b.beacon.departure b.arrival = .delayLow) :
    p.sample lim e b = { p with counts := { p.counts with delayLow := bump p.counts.delayLow } } := by
  unfold Peer.sample; rw [h]

theorem Peer.sample_delayHigh (h : checkSample lim e.t1 e.t2 b.beacon.departure b.arrival = .delayHigh) :
    p.sample lim e b = { p with counts := { p.counts with delayHigh := bump p.counts.delayHigh } } := by
  unfold Peer.sample; rw [h]

theorem Peer.sample_accepted (h : checkSample lim e.t1 e.t2 b.beacon.departure b.arrival = .accepted) :
    p.sample lim e b = p.accept {
      offset := sampleOffset e.t1 e.t2 b.beacon.departure b.arrival,
      delay := sampleDelay e.t1 e.t2 b.beacon.departure b.arrival, tick := b.tick } := by
  unfold Peer.sample; rw [h]

end Sample

/-- Settles O25: the checks of R43 in their order. -/
theorem samplesAreChecked : Obligations.SamplesAreChecked := by
  refine ⟨fun _ _ => State.sampleLimits_of_image, CageTime.diff_spec, ?_⟩
  intro p lim e b t3 t4 turn theta delta q
  refine ⟨fun hturn => ?_, fun hlo hhi => ?_⟩
  · exact Peer.sample_staleEcho (if_pos hturn)
  · refine ⟨fun hmem => ?_, fun hmem => ?_⟩
    · exact Peer.sample_unknownEcho ((if_neg (not_or.2 ⟨Int.not_lt.2 hlo, Int.not_lt.2 hhi⟩)).trans (if_pos hmem))
    · have hcheck := checkSample_of_known (t4 := t4) hlo hhi hmem
      refine ⟨fun hlow => ?_, fun hlow hhigh => ?_, fun hlow hhigh => ?_⟩
      · exact Peer.sample_delayLow (hcheck.trans (if_pos hlow))
      · exact Peer.sample_delayHigh (hcheck.trans ((if_neg (Int.not_lt.2 hlow)).trans (if_pos hhigh)))
      · exact Peer.sample_accepted (hcheck.trans ((if_neg (Int.not_lt.2 hlow)).trans (if_neg (Int.not_lt.2 hhigh))))

end Sys2Proof.Machine
end

section
/-! ## The transmit arbiter's choice and the segment link (R34 to R36, R150, R154, R155, R158 to R160, R172, R183) -/

namespace Sys2Proof.Machine

set_option Elab.async false

/-! ### The end of a frame on the wire (R150, R154, R159) -/

theorem State.endTx_of_idle {s : State} (h : s.port.tx = none) (e : TxEnding) : s.endTx e = s := by
  simp only [State.endTx, h]

theorem State.endTx_whole {s : State} {f : TxFrame} (h : s.port.tx = some f) :
    s.endTx .whole = { s with
      port := { s.port with tx := none, wire := some { frame := f, ending := .whole } },
      pub := if f.kind = .publication then
          { s.pub with counts := { s.pub.counts with framesSent := bump s.pub.counts.framesSent } }
        else s.pub } := by
  simp only [State.endTx, h, if_true]
  split <;> rfl

theorem State.endTx_cut {s : State} {f : TxFrame} (h : s.port.tx = some f) :
    s.endTx .cut = { s with
      port := { s.port with tx := none, wire := some { frame := f, ending := .cut } },
      pub := if f.kind = .publication then
          { s.pub with counts := { s.pub.counts with framesAbandoned := bump s.pub.counts.framesAbandoned } }
        else s.pub } := by
  simp only [State.endTx, h, reduceCtorEq, if_false]
  split <;> rfl

/-! ### The segment link (R34, R158, R159) -/

theorem segmentLinkLoss_up {s : State} (h : s.port.link = .up) :
    segmentLinkLoss s = { s.endTx .cut with port := (s.endTx .cut).port.lose, agr := s.agr.skipDue } := by
  simp only [segmentLinkLoss, if_pos h, State.endTx_agr]

theorem Port.lose_eq (p : Port) :
    p.lose = { p with link := .down, rx := none, counts := { p.counts with
      linkLosses := bump p.counts.linkLosses, rxCut := if p.rx = none then p.counts.rxCut else bump p.counts.rxCut } } := by
  cases h : p.rx <;> simp [Port.lose, h]

/-- Settles O38. -/
theorem segmentLinkAndFrameEnds : Obligations.SegmentLinkAndFrameEnds := by
  refine ⟨fun s f h => ?_, fun s => exec_eq_effect .segmentLinkUp s, ?_⟩
  · rw [exec_eq_effect, effect, segmentTxEnd, State.endTx_whole h]
  intro s h lost agr
  refine ⟨fun htx => ?_, fun f htx => ?_⟩
  · rw [exec_eq_effect, effect, segmentLinkLoss_up h, State.endTx_of_idle htx, Port.lose_eq]
    rfl
  · rw [exec_eq_effect, effect, segmentLinkLoss_up h, State.endTx_cut htx, Port.lose_eq]
    rfl

/-! ### The choice (R154) -/

theorem transmitChoice_busy {s : State} (h : s.port.link = .down ∨ s.port.tx ≠ none) (p : Fin 16) (us : List Upset) :
    transmitChoice p us s = s := by
  refine if_neg fun ⟨hlink, htx⟩ => ?_
  rcases h with h | h
  · rw [h] at hlink; cases hlink
  · exact h htx

section Free

variable {s : State} (hlink : s.port.link = .up) (htx : s.port.tx = none) (p : Fin 16) (us : List Upset)

include hlink htx

theorem transmitChoice_beacon (hdue : s.agr.beaconDue = true) : transmitChoice p us s = s.sendBeacon p := by
  simp [transmitChoice, hlink, htx, hdue]

theorem transmitChoice_alert (hdue : s.agr.beaconDue = false) (halert : s.req.alertPending = true) :
    transmitChoice p us s = s.sendAlert := by
  simp [transmitChoice, hlink, htx, hdue, halert]

theorem transmitChoice_response (hdue : s.agr.beaconDue = false) (halert : s.req.alertPending = false) {r : Response}
    {rest : List Response} (hresponses : s.req.responses = r :: rest) : transmitChoice p us s = s.sendResponse r rest := by
  simp [transmitChoice, hlink, htx, hdue, halert, hresponses]

theorem transmitChoice_nothing (hdue : s.agr.beaconDue = false) (halert : s.req.alertPending = false)
    (hresponses : s.req.responses = []) (hready : s.pub.ready = none) : transmitChoice p us s = s := by
  simp [transmitChoice, hlink, htx, hdue, halert, hresponses, hready]

end Free

/-! ### The contents of a beacon (R35) -/

theorem State.beaconAgreement_eq (s : State) :
    s.beaconAgreement = if s.loader.state = .listen ∨ s.loader.state = .acquire then .acquiring else s.agr.agreement := by
  unfold State.beaconAgreement
  cases h : s.loader.state <;> simp

theorem Peer.echoEntry_eq (p : Peer) (now beaconTicks : Nat) :
    p.echoEntry now beaconTicks = p.echo.bind (fun e =>
      if now ≤ p.lastBeaconTick + 32 * beaconTicks then some { station := p.station, t1 := e.t1, t2 := e.t2 } else none) := by
  cases h : p.echo <;> simp [Peer.echoEntry, h]

/-- Settles O35: the first of a due beacon, a pending ALERT and the head response that is there leaves. -/
theorem transmitChoosesInOrder : Obligations.TransmitChoosesInOrder := by
  refine ⟨by decide, ?_⟩
  intro p us s wire date echo carried
  have hecho : echo = fun q => q.echoEntry s.clock.tick s.beaconTicks :=
    funext fun q => (q.echoEntry_eq s.clock.tick s.beaconTicks).symm
  have hcarried : carried = s.beaconAgreement := s.beaconAgreement_eq.symm
  simp only [exec_eq_effect, effect]
  refine ⟨fun h => ?_, fun hlink htx => ⟨fun hdue => ?_, fun hdue halert => ?_, fun hdue halert r rest hr => ?_,
    fun hdue halert hr hready => ?_⟩⟩
  · rw [transmitChoice_busy h]
  · rw [transmitChoice_beacon hlink htx p us hdue, hecho, hcarried]
    rfl
  · rw [transmitChoice_alert hlink htx p us hdue halert]
    rfl
  · rw [transmitChoice_response hlink htx p us hdue halert hr]
    rfl
  · rw [transmitChoice_nothing hlink htx p us hdue halert hr hready]

end Sys2Proof.Machine
end

section
/-! ## What a round is made of (R48 to R51, R53, R198) -/

namespace Sys2Proof.Machine

set_option Elab.async false

/-! ### The VALID peers (R48, R198) -/

theorem Peer.candidate_iff (p : Peer) (now ticks : Nat) :
    p.candidate now ticks = true ↔ p.state = .paired ∧ 2 ≤ (p.recent now ticks).length := by
  simp [Peer.candidate]

theorem validPeers_sublist (peers : List Peer) (st : StationState) (now ticks : Nat) :
    (validPeers peers st now ticks).Sublist peers := by
  unfold validPeers
  dsimp only
  split <;> exact List.filter_sublist.trans List.filter_sublist

/-- No candidate reports SERVING. -/
theorem servingCandidates_eq_nil_iff (peers : List Peer) (now ticks : Nat) :
    (peers.filter (fun p => p.candidate now ticks)).filter (fun p => decide (p.repState = StationState.serving.code)) = [] ↔
      ∀ p ∈ peers, p.candidate now ticks = true → p.repState ≠ 5 := by
  simp only [List.filter_eq_nil_iff, List.mem_filter, decide_eq_true_eq, and_imp]
  rfl

theorem mem_validPeers (peers : List Peer) (st : StationState) (now ticks : Nat) (p : Peer) :
    p ∈ validPeers peers st now ticks ↔ p ∈ peers ∧ p.candidate now ticks = true ∧
      (p.repState = 5 ∨ (st = .acquire ∧ ∀ q ∈ peers, q.candidate now ticks = true → q.repState ≠ 5) ∧
        (p.repState = 3 ∨ p.repState = 4)) := by
  unfold validPeers
  simp only [servingCandidates_eq_nil_iff]
  split
  next hwide =>
    simp only [List.mem_filter, Bool.or_eq_true, decide_eq_true_eq]
    constructor
    · rintro ⟨⟨hp, hc⟩, hrep⟩
      exact ⟨hp, hc, .inr ⟨hwide, hrep⟩⟩
    · rintro ⟨hp, hc, hserving | ⟨-, hrep⟩⟩
      · exact absurd hserving (hwide.2 p hp hc)
      · exact ⟨⟨hp, hc⟩, hrep⟩
  next hnarrow =>
    simp only [List.mem_filter, decide_eq_true_eq]
    constructor
    · rintro ⟨⟨hp, hc⟩, hrep⟩
      exact ⟨hp, hc, .inl hrep⟩
    · rintro ⟨hp, hc, hserving | ⟨hwide, -⟩⟩
      · exact ⟨⟨hp, hc⟩, hserving⟩
      · exact absurd hwide hnarrow

/-! ### The filtered offset (R49) -/

/-- Of samples in the order taken, one of least delay after which every delay is greater. -/
theorem bestSample_spec {xs : List Sample} (h : xs ≠ []) : ∃ pre x post, xs = pre ++ x :: post ∧ bestSample xs = some x ∧
    (∀ y ∈ pre, x.delay ≤ y.delay) ∧ ∀ y ∈ post, x.delay < y.delay := by
  induction xs using List.reverseRecOn with
  | nil => exact absurd rfl h
  | append_singleton xs z ih =>
    by_cases hnil : xs = []
    · subst hnil
      exact ⟨[], z, [], rfl, rfl, nofun, nofun⟩
    · obtain ⟨pre, x, post, hxs, hbest, hpre, hpost⟩ := ih hnil
      have hnext : bestSample (xs ++ [z]) = if z.delay ≤ x.delay then some z else some x := by
        unfold bestSample at hbest ⊢
        rw [List.foldl_append, hbest]
        rfl
      rw [hnext]
      split
      next hle =>
        refine ⟨xs, z, [], rfl, rfl, fun y hy => ?_, nofun⟩
        have hxy : x.delay ≤ y.delay := by
          rw [hxs, List.mem_append, List.mem_cons] at hy
          rcases hy with hy | rfl | hy
          · exact hpre y hy
          · exact le_refl _
          · exact (hpost y hy).le
        exact hle.trans hxy
      next hgt =>
        refine ⟨pre, x, post ++ [z], by simp [hxs], rfl, hpre, fun y hy => ?_⟩
        rcases List.mem_append.1 hy with hy | hy
        · exact hpost y hy
        · rw [List.mem_singleton.1 hy]
          exact not_le.1 hgt

theorem Peer.filteredOffset_spec {p : Peer} {now ticks : Nat} (h : p.recent now ticks ≠ []) :
    ∃ pre x post, p.recent now ticks = pre ++ x :: post ∧ p.filteredOffset now ticks = x.offset ∧
      (∀ y ∈ pre, x.delay ≤ y.delay) ∧ ∀ y ∈ post, x.delay < y.delay := by
  obtain ⟨pre, x, post, hxs, hbest, hpre, hpost⟩ := bestSample_spec h
  exact ⟨pre, x, post, hxs, by rw [Peer.filteredOffset, hbest], hpre, hpost⟩

/-! ### The set of offsets (R50) -/

theorem offsetSet_anchored {a : AnchorState} (ha : a ≠ .locked) {valid : List Peer} (h : ∃ p ∈ valid, p.repAnchor = 3)
    (now ticks : Nat) :
    offsetSet a valid now ticks = (valid.filter (fun p => decide (p.repAnchor = 3))).map (fun p => p.filteredOffset now ticks) := by
  refine if_pos ⟨ha, fun hnil => ?_⟩
  obtain ⟨p, hp, hrep⟩ := h
  simpa [hrep, AnchorState.code] using List.filter_eq_nil_iff.1 hnil p hp

theorem offsetSet_all {a : AnchorState} {valid : List Peer} (h : a = .locked ∨ ∀ p ∈ valid, p.repAnchor ≠ 3) (now ticks : Nat) :
    offsetSet a valid now ticks = 0 :: valid.map (fun p => p.filteredOffset now ticks) := by
  refine if_neg fun ⟨ha, hsome⟩ => ?_
  rcases h with h | h
  · exact ha h
  · exact hsome (List.filter_eq_nil_iff.2 fun p hp hlocked => h p hp (of_decide_eq_true hlocked))

/-! ### The least and the greatest member -/

/-- A fold that chooses between two yields a member. -/
theorem foldl_mem_of_choice {f : Int → Int → Int} (hf : ∀ a b, f a b = a ∨ f a b = b) (x : Int) (xs : List Int) :
    xs.foldl f x ∈ x :: xs := by
  induction xs generalizing x with
  | nil => simp
  | cons y ys ih =>
    rcases List.mem_cons.1 (ih (f x y)) with h | h
    · rw [List.foldl_cons, h]
      rcases hf x y with e | e <;> simp [e]
    · exact List.mem_cons_of_mem _ (List.mem_cons_of_mem _ h)

/-- A fold that goes at each step to one side of both goes to that side of every member. -/
theorem foldl_bound {f : Int → Int → Int} {R : Int → Int → Prop} (hrefl : ∀ a, R a a) (htrans : ∀ a b c, R a b → R b c → R a c)
    (hleft : ∀ a b, R (f a b) a) (hright : ∀ a b, R (f a b) b) (x : Int) (xs : List Int) : ∀ y ∈ x :: xs, R (xs.foldl f x) y := by
  induction xs generalizing x with
  | nil => simpa using hrefl x
  | cons z zs ih =>
    have hfirst := ih (f x z) (f x z) List.mem_cons_self
    intro y hy
    rw [List.foldl_cons]
    rcases List.mem_cons.1 hy with rfl | hy
    · exact htrans _ _ _ hfirst (hleft _ _)
    · rcases List.mem_cons.1 hy with rfl | hy
      · exact htrans _ _ _ hfirst (hright _ _)
      · exact ih (f x z) y (List.mem_cons_of_mem _ hy)

theorem smallest_mem (x : Int) (xs : List Int) : smallest x xs ∈ x :: xs :=
  foldl_mem_of_choice min_choice x xs

theorem largest_mem (x : Int) (xs : List Int) : largest x xs ∈ x :: xs :=
  foldl_mem_of_choice max_choice x xs

theorem smallest_le {x : Int} {xs : List Int} : ∀ y ∈ x :: xs, smallest x xs ≤ y :=
  foldl_bound (R := (· ≤ ·)) le_refl (fun _ _ _ => le_trans) min_le_left min_le_right x xs

theorem le_largest {x : Int} {xs : List Int} : ∀ y ∈ x :: xs, y ≤ largest x xs :=
  foldl_bound (R := (· ≥ ·)) le_refl (fun _ _ _ => ge_trans) le_max_left le_max_right x xs

/-! ### The midpoint, the spread, and the members removed (R50) -/

theorem midpointSpread_spec (x : Int) (xs : List Int) :
    ∃ lo ∈ x :: xs, ∃ hi ∈ x :: xs, (∀ y ∈ x :: xs, lo ≤ y ∧ y ≤ hi) ∧
      (midpointSpread (x :: xs)).1 = (lo + hi).tdiv 2 ∧ ((midpointSpread (x :: xs)).2 : Int) = hi - lo := by
  refine ⟨smallest x xs, smallest_mem x xs, largest x xs, largest_mem x xs,
    fun y hy => ⟨smallest_le y hy, le_largest y hy⟩, rfl, ?_⟩
  exact Int.toNat_of_nonneg (Int.sub_nonneg.2 (smallest_le _ (largest_mem x xs)))

/-- Where the least member is the greatest too, every member is equal, and one is left when one is taken. -/
theorem smallest_mem_erase_largest {x : Int} {xs : List Int} (h : xs ≠ []) : smallest x xs ∈ (x :: xs).erase (largest x xs) := by
  by_cases e : smallest x xs = largest x xs
  · have hlen : 0 < ((x :: xs).erase (largest x xs)).length := by
      rw [List.length_erase_of_mem (largest_mem x xs)]
      simpa using List.length_pos_iff.2 h
    obtain ⟨y, hy⟩ := List.exists_mem_of_length_pos hlen
    have hmem := List.mem_of_mem_erase hy
    have hlow := smallest_le y hmem
    have hhigh := le_largest y hmem
    rwa [show smallest x xs = y by omega]
  · exact (List.mem_erase_of_ne e).2 (smallest_mem x xs)

theorem trimOffsets_of_few {os : List Int} (h : os.length < 4) : trimOffsets os = os := if_pos h

theorem trimOffsets_perm {os : List Int} (h : 4 ≤ os.length) :
    ∃ lo hi : Int, (lo :: hi :: trimOffsets os).Perm os ∧ ∀ y ∈ os, lo ≤ y ∧ y ≤ hi := by
  cases os with
  | nil => simp at h
  | cons x xs =>
    have hxs : xs ≠ [] := by rintro rfl; simp at h
    have htrim : trimOffsets (x :: xs) = ((x :: xs).erase (largest x xs)).erase (smallest x xs) := if_neg (Nat.not_lt.2 h)
    refine ⟨smallest x xs, largest x xs, ?_, fun y hy => ⟨smallest_le y hy, le_largest y hy⟩⟩
    rw [htrim]
    have hhi := List.perm_cons_erase (largest_mem x xs)
    have hlo := List.perm_cons_erase (smallest_mem_erase_largest (x := x) hxs)
    exact (List.Perm.swap _ _ _).trans ((hlo.symm.cons _).trans hhi.symm)

/-! ### The round and the step of ACQUIRE (R50, R51, R53) -/

section Image

variable {s : State} {cfg : ImageCfg}

theorem State.agreeQuarters_of_image (h : s.loader.config = some cfg) : s.agreeQuarters = cfg.agreeNs * 4 := by
  simp only [State.agreeQuarters, h]

theorem State.anchorEnabled_of_image (h : s.loader.config = some cfg) : s.anchorEnabled = cfg.anchorEnabled := by
  simp only [State.anchorEnabled, h]

theorem State.acquireStep_of_pulse (h : s.loader.config = some cfg) (henabled : cfg.anchorEnabled = true)
    (hseen : s.clock.anchor.seen = true) {d : CageTime} (hd : s.clock.anchor.latest = some d) (r : Round) :
    s.acquireStep r = some (pulseStep d (if r.anyValid then r.midpoint else 0)) := by
  simp [State.acquireStep, State.anchorEnabled_of_image h, henabled, hseen, hd]

theorem State.acquireStep_of_no_pulse (h : s.loader.config = some cfg)
    (hno : cfg.anchorEnabled = false ∨ s.clock.anchor.seen = false) (r : Round) :
    s.acquireStep r = if r.anyValid then some r.midpoint else none := by
  have hand : (s.anchorEnabled && s.clock.anchor.seen) = false := by
    rw [State.anchorEnabled_of_image h]
    rcases hno with e | e <;> simp [e]
  simp [State.acquireStep, hand]

end Image

/-- The step takes the latest pulse date moved by `m` onto the nearest whole second, a half onto the later (R53). -/
theorem pulseStep_spec (d : CageTime) (m : Int) : ∃ k : Int, pulseStep d m = k * 4000000000 - d.quarters ∧
    2 * (d.quarters + m) - 4000000000 < 2 * (k * 4000000000) ∧ 2 * (k * 4000000000) ≤ 2 * (d.quarters + m) + 4000000000 :=
  ⟨((d.quarters : Int) + m + 2000000000) / 4000000000, rfl, by omega, by omega⟩

theorem agreementClass_unlocked {a : AnchorState} (ha : a ≠ .locked) (anyValid : Bool) (spread bound : Nat) :
    agreementClass a anyValid spread bound =
      if anyValid = false then .alone else if spread ≤ bound then .agreed else .spread := by
  cases anyValid <;> simp [agreementClass, ha]

/-- Settles O28: the VALID peers, their offsets, the set, its midpoint and spread, the members removed, the round, the step. -/
theorem roundsMeasureTheOffsets : Obligations.RoundsMeasureTheOffsets := by
  refine ⟨?_, ?_, midpointSpread_spec, fun _ => trimOffsets_of_few, fun _ => trimOffsets_perm, ?_, ?_⟩
  · intro peers st now ticks recent candidate widened
    have hcandidate (p : Peer) : p.candidate now ticks = true ↔ candidate p := p.candidate_iff now ticks
    refine ⟨validPeers_sublist peers st now ticks, fun p => ?_, fun p hp => ?_⟩
    · simp only [mem_validPeers, hcandidate]
      rfl
    · refine Peer.filteredOffset_spec fun hnil => ?_
      have hlen : 2 ≤ (p.recent now ticks).length := hp.2
      simp [hnil] at hlen
  · intro a valid now ticks offset
    exact ⟨fun ha h => offsetSet_anchored ha h now ticks, fun h => offsetSet_all h now ticks⟩
  · intro s cfg hcfg ticks a valid m r
    have hvalid : valid = validPeers s.agr.peers s.loader.state s.clock.tick s.beaconTicks := by
      rw [State.beaconTicks_of_image hcfg]
    have hr : r = {
        anyValid := !valid.isEmpty, midpoint := m.1,
        correction := if a.state = .locked then a.correction.getD 0 else m.1, spread := m.2,
        cls := agreementClass a.state (!valid.isEmpty) m.2 (cfg.agreeNs * 4) } := by
      simp only [r, State.round, State.agreeQuarters_of_image hcfg, State.beaconTicks_of_image hcfg, m, valid, ticks, a]
    rw [hr]
    refine ⟨by simp, rfl, rfl, fun ha => if_neg ha, fun ha => ⟨if_pos ha, if_pos ha⟩, fun ha hnone => ?_, fun ha hsome hle => ?_,
      fun ha hsome hgt => ?_⟩
    · exact (agreementClass_unlocked ha _ _ _).trans (if_pos (by simp [hnone]))
    · exact (agreementClass_unlocked ha _ _ _).trans ((if_neg (by simpa using hsome)).trans (if_pos hle))
    · exact (agreementClass_unlocked ha _ _ _).trans ((if_neg (by simpa using hsome)).trans (if_neg (Nat.not_le.2 hgt)))
  · intro s cfg r hcfg a
    refine ⟨fun d henabled hseen hd => ?_, fun hno => ?_⟩
    · obtain ⟨k, hk, hbounds⟩ := pulseStep_spec d (if r.anyValid then r.midpoint else 0)
      exact ⟨k, by rw [State.acquireStep_of_pulse hcfg henabled hseen hd, hk], hbounds⟩
    · rw [State.acquireStep_of_no_pulse hcfg hno]
      exact ⟨fun h => if_pos h, fun h => by simp [h]⟩

end Sys2Proof.Machine
end

section
/-! ## A beacon taken (R37, R38, R40 to R42, R46) -/

namespace Sys2Proof.Machine

set_option Elab.async false

/-! ### What the beacon puts into an entry (R40 steps 5 and 6) -/

/-- What the beacon replaces in an entry, and its silence deadline; the entry's state, counters and ring are as they were. -/
def Peer.entered (p : Peer) (b : BeaconIn) (beaconTicks : Nat) : Peer :=
  { p with
    repState := b.beacon.state, repAgreement := b.beacon.agreement, repAnchor := b.beacon.anchor,
    repSpread := b.beacon.spread, lastBeaconTick := b.tick, lastBeaconNumber := b.beacon.number,
    echo := if b.stale then none else some { t1 := b.beacon.departure, t2 := b.arrival },
    deadline := b.tick + 4 * beaconTicks }

/-- A SILENT entry returns to HEARD or PAIRED, as its ring is (R46). -/
theorem Peer.record_eq (p : Peer) (b : BeaconIn) (n : Nat) :
    p.record b n =
      ({ p with state := if p.state = .silent then (if p.ring = [] then .heard else .paired) else p.state } : Peer).entered
        b n := rfl

/-- An entry whose ring has been dropped is HEARD once the beacon is in it, whatever it was. -/
theorem Peer.record_dropRing (p : Peer) (b : BeaconIn) (n : Nat) :
    p.dropRing.record b n = ({ p with ring := [], state := .heard } : Peer).entered b n := by
  rw [Peer.record_eq]
  cases h : p.state <;> simp [Peer.dropRing, h]

theorem Peer.dropRing_dropRing (p : Peer) : p.dropRing.dropRing = p.dropRing := by
  cases h : p.state <;> simp [Peer.dropRing, h]

/-! ### The steps before (R40 steps 1 to 4) -/

/-- An entry after the steps that judge the beacon's identity, number and reported state. -/
def Peer.judged (p : Peer) (fresh : Bool) (b : BeaconIn) : Peer :=
  let taken := decide (p.identity ≠ b.beacon.identity)
  let p1 := if taken then p.takeOver b.beacon.identity else p
  let p2 := { p1 with counts := { p1.counts with heard := bump p1.counts.heard } }
  let p3 := if fresh || taken then p2 else p2.numberStep b.beacon.number
  if !fresh && decide (p3.repState ≠ b.beacon.state) then p3.dropRing else p3

/-- Hearing a beacon is judging it, entering it, and sampling the echo of this station when there is one (R40, R42). -/
theorem Peer.hear_eq (p : Peer) (fresh : Bool) (own : Nat) (b : BeaconIn) (n : Nat) (lim : SampleLimits) :
    p.hear fresh own b n lim =
      if b.stale then (p.judged fresh b).record b n
      else
        match b.beacon.echoes.find? (fun e => decide (e.station = own)) with
        | some e => ((p.judged fresh b).record b n).sample lim e b
        | none => (p.judged fresh b).record b n := rfl

/-- A beacon whose date was sampled before the latest boundary, or that echoes no beacon of this station, gives no sample (R42). -/
theorem Peer.hear_unsampled {own : Nat} {b : BeaconIn} (h : b.stale = true ∨ ∀ e ∈ b.beacon.echoes, e.station ≠ own) (p : Peer)
    (fresh : Bool) (n : Nat) (lim : SampleLimits) : p.hear fresh own b n lim = (p.judged fresh b).record b n := by
  rw [Peer.hear_eq]
  split
  · rfl
  next hfresh =>
    have hnone : b.beacon.echoes.find? (fun e => decide (e.station = own)) = none :=
      List.find?_eq_none.2 fun e he => by simpa using h.resolve_left hfresh e he
    rw [hnone]

/-- Of the echoes of this station the first gives the sample (R42). -/
theorem Peer.hear_sampled {own : Nat} {b : BeaconIn} {e : EchoEntry} (hfresh : b.stale = false)
    (h : ∃ pre post, b.beacon.echoes = pre ++ e :: post ∧ e.station = own ∧ ∀ y ∈ pre, y.station ≠ own) (p : Peer) (fresh : Bool)
    (n : Nat) (lim : SampleLimits) : p.hear fresh own b n lim = ((p.judged fresh b).record b n).sample lim e b := by
  obtain ⟨pre, post, hechoes, he, hpre⟩ := h
  have hfind : b.beacon.echoes.find? (fun e => decide (e.station = own)) = some e :=
    List.find?_eq_some_iff_append.2 ⟨by simpa using he, pre, post, hechoes, by simpa using hpre⟩
  rw [Peer.hear_eq, hfresh, hfind]
  rfl

/-! ### The steps case by case -/

/-- An entry just made: steps 3 and 4 are passed over (R40). -/
theorem Peer.judged_fresh (b : BeaconIn) (station : Nat) :
    ({ station := station, identity := b.beacon.identity } : Peer).judged true b =
      { station := station, identity := b.beacon.identity, counts := { heard := 1 } } := by
  simp [Peer.judged, bump, Config.counterMax]

/-- An entry taken over by a new identity starts afresh, its ring empty whatever state the beacon reports (R40 step 1). -/
theorem Peer.judged_takenOver {p : Peer} {b : BeaconIn} (h : p.identity ≠ b.beacon.identity) :
    p.judged false b =
      { p.takeOver b.beacon.identity with counts := { heard := 1, identityChanges := 1 } } := by
  have hdrop (q : Peer) (hring : q.ring = []) (hstate : q.state = .heard) : q.dropRing = q := by
    cases q; simp_all [Peer.dropRing]
  unfold Peer.judged
  simp only [h, ne_eq, not_false_eq_true, decide_true, if_true, Bool.or_true]
  split
  · rw [hdrop _ rfl rfl]; rfl
  · rfl

/-- The entry once the beacon heard is counted (R40 step 2). -/
def Peer.counted (p : Peer) : Peer := { p with counts := { p.counts with heard := bump p.counts.heard } }

theorem Peer.judged_known {p : Peer} {b : BeaconIn} (h : p.identity = b.beacon.identity) :
    p.judged false b = if p.repState ≠ b.beacon.state then (p.counted.numberStep b.beacon.number).dropRing
      else p.counted.numberStep b.beacon.number := by
  have hrep : (p.counted.numberStep b.beacon.number).repState = p.repState := by
    rcases p.counted.numberStep_cases b.beacon.number with e | ⟨k, e⟩ <;> rw [e] <;> rfl
  have htaken : decide (p.identity ≠ b.beacon.identity) = false := by simp [h]
  have hjudged : p.judged false b =
      if (!false && decide ((p.counted.numberStep b.beacon.number).repState ≠ b.beacon.state)) = true then
        (p.counted.numberStep b.beacon.number).dropRing
      else p.counted.numberStep b.beacon.number := by
    unfold Peer.judged
    simp only [htaken, Bool.or_self, Bool.false_eq_true, if_false]
    rfl
  rw [hjudged, hrep]
  by_cases hstate : p.repState = b.beacon.state <;> simp [hstate]

/-- The distance from the last number to the new one, modulo 2^32 (R40). -/
theorem forwardDistance_eq (last new : Nat) : (forwardDistance last new : Int) = ((new : Int) - last) % 4294967296 := by
  unfold forwardDistance; omega

/-- A number repeated or fallen, or a reported state that has changed, drops the ring (R40 steps 3 and 4). -/
theorem Peer.judged_dropped {p : Peer} {b : BeaconIn} (h : p.identity = b.beacon.identity) {k : PeerCounts}
    (hstep : p.counted.numberStep b.beacon.number = { p with counts := k } ∧ p.repState ≠ b.beacon.state ∨
      p.counted.numberStep b.beacon.number = ({ p with counts := k } : Peer).dropRing) :
    p.judged false b = ({ p with counts := k } : Peer).dropRing := by
  rw [Peer.judged_known h]
  rcases hstep with ⟨e, hstate⟩ | e
  · rw [if_pos hstate, e]
  · rw [e, Peer.dropRing_dropRing, ite_self]

section Number

variable {p : Peer} {new : Nat} {d : Int} (hd : d = ((new : Int) - p.lastBeaconNumber) % 4294967296)

include hd

/-- A number repeated or fallen drops the ring (R40 step 3). -/
theorem Peer.numberStep_again (h : d = 0 ∨ 2147483648 < d) : p.numberStep new = p.dropRing := by
  have := forwardDistance_eq p.lastBeaconNumber new
  exact if_pos (by omega)

/-- A number that has risen counts those between as missed (R40 step 3). -/
theorem Peer.numberStep_risen (h : ¬ (d = 0 ∨ 2147483648 < d)) :
    p.numberStep new = { p with counts := { p.counts with missed := bumpBy (d - 1).toNat p.counts.missed } } := by
  have hdist := forwardDistance_eq p.lastBeaconNumber new
  have hsub : forwardDistance p.lastBeaconNumber new - 1 = (d - 1).toNat := by omega
  rw [← hsub]
  exact if_neg (by omega)

end Number

/-! ### The station takes the beacon (R37) -/

theorem StationState.beacons_iff (st : StationState) : st.beacons = true ↔ st = .listen ∨ st = .acquire ∨ st = .serving := by
  cases st <;> simp [StationState.beacons]

/-- The station with the beacon taken. -/
def State.inboxTaken (s : State) : State := { s with agr := { s.agr with inbox := none } }

theorem beaconTaken_heard {s : State} {b : BeaconIn} (hb : s.agr.inbox = some b) (h : s.loader.state.beacons = true) :
    beaconTaken s = s.inboxTaken.hearBeacon b := by
  simp only [beaconTaken, hb, h, if_true]
  rfl

theorem beaconTaken_discarded {s : State} {b : BeaconIn} (hb : s.agr.inbox = some b) (h : ¬ s.loader.state.beacons = true) :
    beaconTaken s = s.inboxTaken := by
  simp only [beaconTaken, hb, if_neg h]
  rfl

section Hear

variable {s : State} {b : BeaconIn}

/-- A larger identity under the own number is survived (R38). -/
theorem State.hearBeacon_survives (hown : b.beacon.station = s.loader.station) (hid : s.loader.identity < b.beacon.identity) :
    s.hearBeacon b = s.surviveConflict b := by
  have hne : b.beacon.identity ≠ s.loader.identity := (BitVec.ne_of_lt hid).symm
  unfold State.hearBeacon
  simp only [if_pos hown, if_neg hne, if_neg (BitVec.lt_asymm hid)]

/-- A smaller identity under the own number puts the station in CONFLICT (R38, R39). -/
theorem State.hearBeacon_yields (hown : b.beacon.station = s.loader.station) (hid : b.beacon.identity < s.loader.identity) :
    s.hearBeacon b = s.enterConflict := by
  unfold State.hearBeacon
  simp only [if_pos hown, if_neg (BitVec.ne_of_lt hid), if_pos hid]

theorem State.hearBeacon_peer (hown : b.beacon.station ≠ s.loader.station)
    (hknown : ∃ p ∈ s.agr.peers, p.station = b.beacon.station) :
    s.hearBeacon b = { s with agr := { s.agr with peers := s.agr.peers.map (fun p =>
      if p.station = b.beacon.station then p.hear false s.loader.station b s.beaconTicks s.sampleLimits else p) } } := by
  have hany : s.agr.peers.any (fun p => decide (p.station = b.beacon.station)) = true := by simpa using hknown
  unfold State.hearBeacon
  simp only [if_neg hown, if_pos hany]

theorem State.hearBeacon_new (hown : b.beacon.station ≠ s.loader.station)
    (hnew : ∀ p ∈ s.agr.peers, p.station ≠ b.beacon.station) (h15 : b.beacon.station ≤ 15) :
    s.hearBeacon b = { s with agr := { s.agr with peers := s.agr.peers ++
      [Peer.hear { station := b.beacon.station, identity := b.beacon.identity } true s.loader.station b s.beaconTicks
        s.sampleLimits] } } := by
  have hany : ¬ s.agr.peers.any (fun p => decide (p.station = b.beacon.station)) = true := by simpa using hnew
  unfold State.hearBeacon
  simp only [if_neg hown, if_neg hany, if_pos h15]

theorem State.hearBeacon_refused (hown : b.beacon.station ≠ s.loader.station)
    (hnew : ∀ p ∈ s.agr.peers, p.station ≠ b.beacon.station) (h15 : 15 < b.beacon.station) :
    s.hearBeacon b = { s with agr := { s.agr with refused := bump s.agr.refused }, req := s.req.raise .peerTableFull } := by
  have hany : ¬ s.agr.peers.any (fun p => decide (p.station = b.beacon.station)) = true := by simpa using hnew
  unfold State.hearBeacon
  simp only [if_neg hown, if_neg hany, if_neg (Nat.not_le.2 h15)]

/-- A conflict already in the memory, of the same identity and not too long ago, is no news (R38). -/
theorem State.surviveConflict_known (h : ∃ m, s.agr.conflict = some m ∧ m.identity = b.beacon.identity ∧
    b.tick ≤ m.tick + 32 * s.beaconTicks) :
    s.surviveConflict b = { s with agr := { s.agr with conflict := some { identity := b.beacon.identity, tick := b.tick } } } := by
  obtain ⟨m, hm, hid, htick⟩ := h
  have hnews : (decide (m.identity ≠ b.beacon.identity) || decide (m.tick + 32 * s.beaconTicks < b.tick)) = false := by
    simpa [hid] using htick
  simp only [State.surviveConflict, hm, hnews]
  rfl

theorem State.surviveConflict_new (h : ∀ m, s.agr.conflict = some m → m.identity ≠ b.beacon.identity ∨
    m.tick + 32 * s.beaconTicks < b.tick) :
    s.surviveConflict b = { s with
      agr := { s.agr with conflict := some { identity := b.beacon.identity, tick := b.tick }, conflicts := bump s.agr.conflicts },
      req := s.req.raise .stationConflict } := by
  cases hm : s.agr.conflict with
  | none =>
    simp only [State.surviveConflict, hm]
    rfl
  | some m =>
    have hnews : (decide (m.identity ≠ b.beacon.identity) || decide (m.tick + 32 * s.beaconTicks < b.tick)) = true := by
      simpa using h m hm
    simp only [State.surviveConflict, hm, hnews]
    rfl

end Hear

/-- Of entries with numbers of their own, one rewritten by its number is rewritten alone. -/
theorem map_station_append {pre post : List Peer} {p : Peer} (h : ((pre ++ p :: post).map Peer.station).Nodup) (f : Peer → Peer) :
    (pre ++ p :: post).map (fun q => if q.station = p.station then f q else q) = pre ++ f p :: post := by
  have hother (qs : List Peer) (hqs : ∀ q ∈ qs, q.station ≠ p.station) :
      qs.map (fun q => if q.station = p.station then f q else q) = qs :=
    (List.map_congr_left fun q hq => if_neg (hqs q hq)).trans (List.map_id qs)
  rw [List.map_append, List.map_cons] at h
  have hpre := List.nodup_append.1 h
  have hpost := List.nodup_cons.1 hpre.2.1
  rw [List.map_append, List.map_cons, if_pos rfl, hother pre fun q hq e => ?_, hother post fun q hq e => ?_]
  · exact hpost.1 (e ▸ List.mem_map_of_mem hq)
  · exact hpre.2.2 _ (List.mem_map_of_mem hq) _ List.mem_cons_self e

/-- Settles O23: discarded; survived; refused or first heard; and of a known peer the cases of R40. -/
theorem beaconTakenByCase : Obligations.BeaconTakenByCase := by
  intro s b hb x gone heard echo entered unsampled sampled
  have hheard : heard → s.loader.state.beacons = true := (StationState.beacons_iff _).2
  have hexec : exec .beaconTaken s = .next (beaconTaken s) := exec_eq_effect .beaconTaken s
  refine ⟨fun h => ?_, fun h hown hid => ?_, fun h hown hnew => ?_, ?_⟩
  · rw [hexec, beaconTaken_discarded hb (mt (StationState.beacons_iff _).1 h)]
    rfl
  · rw [hexec, beaconTaken_heard hb (hheard h), State.hearBeacon_survives (s := s.inboxTaken) hown hid]
    refine ⟨fun m hm hsame htick => ?_, fun hnews => ?_⟩
    · rw [State.surviveConflict_known (s := s.inboxTaken) ⟨m, hm, hsame, htick⟩]
      rfl
    · rw [State.surviveConflict_new (s := s.inboxTaken) hnews]
      rfl
  · rw [hexec, beaconTaken_heard hb (hheard h)]
    refine ⟨fun h15 => ?_, fun h15 hun => ?_, fun h15 e ⟨hfresh, hfirst⟩ => ?_⟩
    · rw [State.hearBeacon_refused (s := s.inboxTaken) hown hnew h15]
      rfl
    · rw [State.hearBeacon_new (s := s.inboxTaken) hown hnew h15, Peer.hear_unsampled (own := s.inboxTaken.loader.station) hun,
        Peer.judged_fresh]
      rfl
    · rw [State.hearBeacon_new (s := s.inboxTaken) hown hnew h15,
        Peer.hear_sampled (own := s.inboxTaken.loader.station) hfresh hfirst, Peer.judged_fresh]
      rfl
  · intro pre p post h hsound hpeers hstation after d again counts missed
    have hp : p ∈ s.agr.peers := by simp [hpeers]
    have hown : x.station ≠ s.loader.station := hstation ▸ (hsound.2 p hp).2
    have hnodup : ((pre ++ p :: post).map Peer.station).Nodup := hpeers ▸ hsound.1
    have htaken : beaconTaken s = { s with agr := { gone with
        peers := pre ++ p.hear false s.loader.station b s.beaconTicks s.sampleLimits :: post } } := by
      rw [beaconTaken_heard hb (hheard h), State.hearBeacon_peer (s := s.inboxTaken) hown ⟨p, hp, hstation⟩]
      have hmap := map_station_append hnodup (fun q => q.hear false s.loader.station b s.beaconTicks s.sampleLimits)
      rw [hstation, ← hpeers] at hmap
      rw [← hmap]
      rfl
    have hafter (q : Peer) (hq : (p.judged false b).record b s.beaconTicks = q) : after q := by
      subst hq
      refine ⟨fun hun => ?_, fun e ⟨hfresh, hfirst⟩ => ?_⟩
      · rw [hexec, htaken, Peer.hear_unsampled hun]
      · rw [hexec, htaken, Peer.hear_sampled hfresh hfirst]
    have hnumber : again ∧ p.counted.numberStep x.number = ({ p with counts := counts missed } : Peer).dropRing ∨
        ¬ again ∧ p.counted.numberStep x.number = { p with counts := counts missed } := by
      by_cases hagain : again
      · have hmissed : missed = p.counts.missed := if_pos hagain
        exact .inl ⟨hagain, by rw [hmissed]; exact Peer.numberStep_again (p := p.counted) rfl hagain⟩
      · have hmissed : missed = bumpBy (d - 1).toNat p.counts.missed := if_neg hagain
        exact .inr ⟨hagain, by rw [hmissed]; exact Peer.numberStep_risen (p := p.counted) rfl hagain⟩
    refine ⟨fun hid => hafter _ ?_, fun hid hdrop => hafter _ ?_, fun hid hrisen hstate => hafter _ ?_⟩
    · rw [Peer.judged_takenOver hid]
      rfl
    · rw [Peer.judged_dropped hid (k := counts missed), Peer.record_dropRing]
      · rfl
      · rcases hnumber with ⟨-, e⟩ | ⟨hrisen, e⟩
        · exact .inr e
        · exact .inl ⟨e, hdrop.resolve_left hrisen⟩
    · rw [Peer.judged_known hid, if_neg (not_not_intro hstate)]
      rcases hnumber with ⟨hagain, -⟩ | ⟨-, e⟩
      · exact absurd hagain hrisen
      · rw [e]
        rfl

end Sys2Proof.Machine
end

section
/-! ## The station enters CONFLICT (R11, R21, R38, R39, R72, R100, R130, R131, R136, R150, R157, R173, R174, R181) -/

namespace Sys2Proof.Machine

set_option Elab.async false

/-! ### The flush (R172 to R174) -/

/-- One request flushed finds room for its answer, or the response queue full (R172, R173). -/
theorem ReqHandler.flushOne_cases (r : ReqHandler) (q : Request) :
    (r.responses.length < 4 ∧ r.flushOne q = { r with
        responses := r.responses ++ [q.answer .flushed []],
        counts := { r.counts with flushed := bump r.counts.flushed } }) ∨
      (4 ≤ r.responses.length ∧ r.flushOne q = { r with
        counts := { r.counts with flushed := bump r.counts.flushed, unanswered := bump r.counts.unanswered } }) :=
  ReqHandler.respond_cases { r with counts := { r.counts with flushed := bump r.counts.flushed } } (q.answer .flushed [])

/-- Of the requests flushed each is counted, and answered as far as the response queue holds. -/
theorem ReqHandler.foldl_flushOne_eq (qs : List Request) (r : ReqHandler) (h : r.responses.length ≤ 4) :
    qs.foldl flushOne r = { r with
      responses := (r.responses ++ qs.map (fun q => q.answer .flushed [])).take 4,
      counts := { r.counts with
        flushed := bump^[qs.length] r.counts.flushed,
        unanswered := bump^[r.responses.length + qs.length - 4] r.counts.unanswered } } := by
  induction qs generalizing r with
  | nil => simp [List.take_of_length_le h, Nat.sub_eq_zero_of_le h]
  | cons q qs ih =>
    rcases r.flushOne_cases q with ⟨hroom, e⟩ | ⟨hfull, e⟩
    · have hlost : r.responses.length + (qs.length + 1) - 4 = r.responses.length + 1 + qs.length - 4 := by omega
      rw [List.foldl_cons, e, ih _ (by simpa using hroom)]
      simp only [List.length_append, List.length_cons, List.length_nil, Nat.zero_add, hlost, Function.iterate_succ_apply,
        List.map_cons, List.append_assoc, List.singleton_append]
    · have hlost : r.responses.length + (qs.length + 1) - 4 = r.responses.length + qs.length - 4 + 1 := by omega
      rw [List.foldl_cons, e, ih _ (by exact h)]
      simp only [List.length_cons, hlost, Function.iterate_succ_apply, List.take_append_of_le_length hfull]

theorem ReqHandler.flush_eq (r : ReqHandler) (h : r.responses.length ≤ 4) :
    r.flush = { r with
      queue := [], parts := [],
      responses := (r.responses ++ r.queue.map (fun q => q.answer .flushed [])).take 4,
      counts := { r.counts with
        flushed := bump^[r.queue.length] r.counts.flushed,
        unanswered := bump^[r.responses.length + r.queue.length - 4] r.counts.unanswered } } :=
  ReqHandler.foldl_flushOne_eq r.queue _ h

/-! ### The pool, and the transmitter -/

/-- A release rewrites the free list and the held counts alone (R123). -/
theorem Pool.releaseAll_eq (cs : List (Option Chain)) (p : Pool) :
    p.releaseAll cs = { p with free := (p.releaseAll cs).free, held := (p.releaseAll cs).held } := by
  induction cs generalizing p with
  | nil => rfl
  | cons c cs ih =>
    rw [Pool.releaseAll_cons, ih]
    cases c <;> rfl

theorem State.leaveService_pool_eq {s : State} (h : s.PoolSound) :
    s.leaveService.pool = { s.pool with free := 4096, held := PerLine.all 0 } := by
  obtain ⟨hheld, hfree⟩ := State.leaveService_pool_free h
  rw [State.leaveService_pool] at hheld hfree ⊢
  rw [Pool.releaseAll_eq, hheld, hfree]

theorem State.abandonPublication_counts_of_publication {s : State} {g : TxFrame} (htx : s.port.tx = some g)
    (hk : g.kind = .publication) :
    s.abandonPublication.pub.counts = { s.pub.counts with framesAbandoned := bump s.pub.counts.framesAbandoned } := by
  simp [State.abandonPublication, State.endTx, htx, hk]

/-- Of an emptied Publisher the frame number and the counters are left (R157). -/
theorem State.leaveService_pub_eq (s : State) :
    s.leaveService.pub = { frameNumber := s.pub.frameNumber, counts := s.abandonPublication.pub.counts } := by
  have hnumber : s.abandonPublication.pub.frameNumber = s.pub.frameNumber := by
    unfold State.abandonPublication State.endTx
    repeat' split
    all_goals rfl
  rw [State.leaveService_pub, ← hnumber]
  rfl

/-! ### CONFLICT -/

/-- The whole state in CONFLICT; the lines, the pool, the port and the Publisher's counters are what leaving service makes them. -/
theorem State.enterConflict_eq (s : State) :
    s.enterConflict = { s with
      loader := { s.loader with state := .conflict },
      clock := { s.clock with slew := 0, pendingSeconds := none },
      agr := { s.agr with
        beaconTimer := none, roundTimer := none, beaconDue := false, peers := [], departures := [], servingAfterStep := none },
      lines := s.flushRequests.leaveService.lines, handOffs := [], arrivals := [], feeds := s.feeds.map (fun f => { cfg := f.cfg }),
      pool := s.flushRequests.leaveService.pool,
      pub := { frameNumber := s.pub.frameNumber, counts := s.flushRequests.abandonPublication.pub.counts },
      port := s.flushRequests.abandonPublication.port,
      req := s.req.flush.raise .stationConflict } := by
  unfold State.enterConflict
  simp only [State.leaveService_loader, State.leaveService_clock, State.leaveService_agr, State.leaveService_lines,
    State.leaveService_handOffs, State.leaveService_arrivals, State.leaveService_arbiter, State.leaveService_feeds,
    State.leaveService_pub_eq, State.leaveService_port, State.leaveService_req, State.leaveService_pending]
  rfl

/-- Settles O24: the beacon is taken, the requests are flushed, and the station leaves service. -/
theorem beaconTakenEntersConflict : Obligations.BeaconTakenEntersConflict := by
  intro s b hb hlen hheard hown hid unmark publication flushed lost req
  have htaken : exec .beaconTaken s = .next s.inboxTaken.enterConflict := by
    rw [exec_eq_effect, effect, beaconTaken_heard hb ((StationState.beacons_iff _).2 hheard),
      State.hearBeacon_yields (s := s.inboxTaken) hown hid]
  let t := s.inboxTaken.flushRequests
  refine ⟨t.leaveService.lines, t.leaveService.pool, t.abandonPublication.port, t.abandonPublication.pub.counts,
    fun i => ?_, fun hpool => ?_, fun g hg hk => ⟨?_, ?_⟩, fun hother => ?_, ?_⟩
  · rw [State.leaveService_lines, PerLine.get_map]
    rfl
  · exact State.leaveService_pool_eq (s := t) hpool
  · exact State.abandonPublication_port_of_publication (s := t) hg hk
  · exact State.abandonPublication_counts_of_publication (s := t) hg hk
  · rw [State.abandonPublication_of_other (s := t) fun g hg hk => hother ⟨g, hg, hk⟩]
    exact ⟨rfl, rfl⟩
  · rw [htaken, State.enterConflict_eq, ReqHandler.flush_eq s.inboxTaken.req hlen]
    rfl

end Sys2Proof.Machine
end

section
/-! ## The Feed Classifier: the parse of a frame (R60 to R62)

The tests of R60 to R62 are gathered into one condition on the window, `IsUdpFrame`; a frame written field by field meets it. -/

namespace Sys2Proof.Machine

set_option Elab.async false

/-! ### Reading the first bytes -/

theorem natAt_cons_one (b : Byte) (bs : List Byte) : natAt (b :: bs) 0 1 = b.toNat := by
  simp [natAt, slice, fromBE]

theorem natAt_cons_two (b c : Byte) (bs : List Byte) : natAt (b :: c :: bs) 0 2 = b.toNat * 256 + c.toNat := by
  simp [natAt, slice, fromBE]

theorem natAt_cons_succ (b : Byte) (bs : List Byte) (off n : Nat) : natAt (b :: bs) (off + 1) n = natAt bs off n := rfl

/-- A field at a place reckoned from the end of the first part. -/
theorem natAt_append_add {as : List Byte} {m : Nat} (h : as.length = m) (bs : List Byte) (off n : Nat) :
    natAt (as ++ bs) (m + off) n = natAt bs off n := by
  rw [natAt_append_right _ _ _ _ (by omega), h, Nat.add_sub_cancel_left]

/-! ### The tests on a window -/

/-- Where the Ethernet header ends, one VLAN tag passed over (R60). -/
def etherEnd (w : List Byte) : Nat := if natAt w 12 2 = 0x8100 ∨ natAt w 12 2 = 0x88A8 then 18 else 14

/-- The length that the first byte of an IPv4 header gives it (R61). -/
def ipSize (w : List Byte) (e : Nat) : Nat := natAt w e 1 % 16 * 4

/-- The window passes every test of R60 to R62, its headers ending within it. -/
structure IsUdpFrame (w : List Byte) : Prop where
  ipv4 : natAt w (etherEnd w - 2) 2 = 0x0800
  version : natAt w (etherEnd w) 1 / 16 = 4
  size : 20 ≤ ipSize w (etherEnd w)
  udp : natAt w (etherEnd w + 9) 1 = 17
  whole : natAt w (etherEnd w + 6) 2 % 16384 = 0
  within : etherEnd w + ipSize w (etherEnd w) + 8 ≤ w.length

theorem etherLength_eq (w : List Byte) : etherLength w =
    if etherEnd w ≤ w.length ∧ natAt w (etherEnd w - 2) 2 = 0x0800 then some (etherEnd w) else none := by
  unfold etherLength etherEnd
  by_cases htag : natAt w 12 2 = 0x8100 ∨ natAt w 12 2 = 0x88A8
  · simp only [if_pos htag]
    grind
  · simp only [if_neg htag]
    grind

theorem ipLength_eq (w : List Byte) (e : Nat) : ipLength w e =
    if e + ipSize w e ≤ w.length ∧ natAt w e 1 / 16 = 4 ∧ 20 ≤ ipSize w e ∧ natAt w (e + 9) 1 = 17 ∧
      natAt w (e + 6) 2 % 16384 = 0 then some (ipSize w e) else none := by
  unfold ipLength ipSize
  grind

theorem parseFrame_of_isUdpFrame {w : List Byte} (h : IsUdpFrame w) : parseFrame w = some {
    dest := natAt w (etherEnd w + 16) 4, port := natAt w (etherEnd w + ipSize w (etherEnd w) + 2) 2,
    payload := etherEnd w + ipSize w (etherEnd w) + 8,
    udpLength := natAt w (etherEnd w + ipSize w (etherEnd w) + 4) 2 } := by
  obtain ⟨hipv4, hversion, hsize, hudp, hwhole, hwithin⟩ := h
  have he : etherLength w = some (etherEnd w) := by
    rw [etherLength_eq, if_pos ⟨by omega, hipv4⟩]
  have hi : ipLength w (etherEnd w) = some (ipSize w (etherEnd w)) := by
    rw [ipLength_eq, if_pos ⟨by omega, hversion, hsize, hudp, hwhole⟩]
  simp only [parseFrame, he, hi, if_neg (Nat.not_lt.2 hwithin)]

/-- Only a window that passes the tests is parsed. -/
theorem isUdpFrame_of_parseFrame {w : List Byte} {p : Parsed} (h : parseFrame w = some p) : IsUdpFrame w := by
  unfold parseFrame at h
  rw [etherLength_eq] at h
  split_ifs at h with hether
  obtain ⟨-, hipv4⟩ := hether
  simp only [ipLength_eq] at h
  split_ifs at h with hip
  dsimp only at h
  split_ifs at h with hshort
  obtain ⟨-, hversion, hsize, hudp, hwhole⟩ := hip
  exact ⟨hipv4, hversion, hsize, hudp, hwhole, Nat.not_lt.1 hshort⟩

theorem parseFrame_eq_none {w : List Byte} (h : ¬ IsUdpFrame w) : parseFrame w = none :=
  Option.eq_none_iff_forall_ne_some.2 fun _ hp => h (isUdpFrame_of_parseFrame hp)

/-! ### The bytes of a frame -/

section EthernetHeader

variable {macs tag : List Byte} (hmacs : macs.length = 12)
include hmacs

/-- Past the Ethernet header the fields are those of what follows it. -/
theorem natAt_ethernet_append (body : List Byte) (off n : Nat) :
    natAt (macs ++ tag ++ [0x08, 0x00] ++ body) (14 + tag.length + off) n = natAt body off n :=
  natAt_append_add (by simp [hmacs]; omega) body off n

/-- The type IPv4 stands at the end of the Ethernet header. -/
theorem natAt_ethernet_type (body : List Byte) :
    natAt (macs ++ tag ++ [0x08, 0x00] ++ body) (12 + tag.length) 2 = 0x0800 := by
  rw [List.append_assoc, ← Nat.add_zero (12 + tag.length), natAt_append_add (by simp [hmacs])]
  exact natAt_cons_two _ _ _

/-- The Ethernet header, untagged or with one tag of either kind, is passed over (R60). -/
theorem etherEnd_ethernet_append (htag : tag = [] ∨ ∃ x y, tag = [0x81, 0x00, x, y] ∨ tag = [0x88, 0xA8, x, y])
    (body : List Byte) : etherEnd (macs ++ tag ++ [0x08, 0x00] ++ body) = 14 + tag.length := by
  have hfirst : natAt (macs ++ tag ++ [0x08, 0x00] ++ body) 12 2 = natAt (tag ++ ([0x08, 0x00] ++ body)) 0 2 := by
    rw [List.append_assoc, List.append_assoc]
    exact natAt_append_add hmacs _ 0 2
  rw [etherEnd, hfirst]
  rcases htag with rfl | ⟨x, y, rfl | rfl⟩ <;> simp [natAt_cons_two]

end EthernetHeader

/-- An IPv4 header of `words` words, protocol UDP, its options after its first 20 bytes (R61). -/
def ipHeader (a ttl ck options : List Byte) (words flags dest : Nat) : List Byte :=
  [BitVec.ofNat 8 (64 + words)] ++ a ++ [BitVec.ofNat 8 (64 * flags), 0x00] ++ ttl ++ [0x11] ++ ck ++ toBE 4 dest ++ options

section IpHeader

variable {a ttl ck options : List Byte} {words flags dest : Nat} (udp : List Byte)

theorem ipHeader_firstByte (hwords : words ≤ 15) :
    natAt (ipHeader a ttl ck options words flags dest ++ udp) 0 1 = 64 + words := by
  simp [ipHeader, natAt_cons_one]
  omega

variable (ha : a.length = 5) (httl : ttl.length = 1) (hck : ck.length = 6)
include ha

/-- Neither the more-fragments flag nor the offset is set, whatever the two flags above them (R61). -/
theorem ipHeader_whole : natAt (ipHeader a ttl ck options words flags dest ++ udp) 6 2 % 16384 = 0 := by
  have hat : natAt (ipHeader a ttl ck options words flags dest ++ udp) 6 2 = 64 * flags % 256 * 256 := by
    simp [ipHeader, natAt_cons_succ, natAt_append_right, ha, natAt_cons_two]
  omega

include httl

theorem ipHeader_protocol : natAt (ipHeader a ttl ck options words flags dest ++ udp) 9 1 = 17 := by
  simp [ipHeader, natAt_cons_succ, natAt_append_right, ha, httl, natAt_cons_one]

include hck

theorem ipHeader_length (hwords : 5 ≤ words) (hoptions : options.length = 4 * (words - 5)) :
    (ipHeader a ttl ck options words flags dest).length = 4 * words := by
  simp [ipHeader, ha, httl, hck, hoptions]
  omega

theorem ipHeader_dest (hdest : dest < 4294967296) :
    natAt (ipHeader a ttl ck options words flags dest ++ udp) 16 4 = dest := by
  simp [ipHeader, natAt_cons_succ, natAt_append_right, ha, httl, hck, natAt_toBE_append]
  omega

end IpHeader

section UdpHeader

variable {ports : List Byte} (hports : ports.length = 2) (rest : List Byte)
include hports

theorem udpHeader_port {port : Nat} (hport : port < 65536) : natAt (ports ++ toBE 2 port ++ rest) 2 2 = port := by
  simp [natAt_append_right, hports, natAt_toBE_append]
  omega

theorem udpHeader_udpLength (port : Nat) {len : Nat} (hlen : len < 65536) :
    natAt (ports ++ toBE 2 port ++ (toBE 2 len ++ rest)) 4 2 = len := by
  simp [natAt_append_right, hports, natAt_toBE_append]
  omega

end UdpHeader

/-- A frame written field by field passes the tests, and its fields are read back. -/
theorem parseFrame_written {macs tag a ttl ck options ports ck2 rest : List Byte} {words flags dest port len : Nat}
    (hmacs : macs.length = 12) (htag : tag = [] ∨ ∃ x y, tag = [0x81, 0x00, x, y] ∨ tag = [0x88, 0xA8, x, y])
    (hmin : 5 ≤ words) (hmax : words ≤ 15) (ha : a.length = 5) (httl : ttl.length = 1) (hck : ck.length = 6)
    (hoptions : options.length = 4 * (words - 5)) (hports : ports.length = 2) (hck2 : ck2.length = 2)
    (hdest : dest < 4294967296) (hport : port < 65536) (hlen : len < 65536) :
    parseFrame (macs ++ tag ++ [0x08, 0x00] ++
        (ipHeader a ttl ck options words flags dest ++ (ports ++ toBE 2 port ++ (toBE 2 len ++ (ck2 ++ rest))))) =
      some { dest := dest, port := port, payload := 22 + tag.length + 4 * words, udpLength := len } := by
  generalize hudp : ports ++ toBE 2 port ++ (toBE 2 len ++ (ck2 ++ rest)) = udp
  have hsize : (ipHeader a ttl ck options words flags dest).length = 4 * words := ipHeader_length ha httl hck hmin hoptions
  generalize hw : macs ++ tag ++ [0x08, 0x00] ++ (ipHeader a ttl ck options words flags dest ++ udp) = w
  have hend : etherEnd w = 14 + tag.length := hw ▸ etherEnd_ethernet_append hmacs htag _
  have hat (off n : Nat) : natAt w (etherEnd w + off) n = natAt (ipHeader a ttl ck options words flags dest ++ udp) off n := by
    rw [hend, ← hw, natAt_ethernet_append hmacs]
  have hfirst : natAt w (etherEnd w) 1 = 64 + words := (hat 0 1).trans (ipHeader_firstByte udp hmax)
  have hip : ipSize w (etherEnd w) = 4 * words := by rw [ipSize, hfirst]; omega
  have hpast (off n : Nat) : natAt w (etherEnd w + 4 * words + off) n = natAt udp off n := by
    rw [Nat.add_assoc, hat, natAt_append_add hsize]
  have hportAt : natAt udp 2 2 = port := hudp ▸ udpHeader_port hports _ hport
  have hlenAt : natAt udp 4 2 = len := hudp ▸ udpHeader_udpLength hports _ port hlen
  have hframe : IsUdpFrame w := {
    ipv4 := by
      rw [hend, show 14 + tag.length - 2 = 12 + tag.length by omega, ← hw]
      exact natAt_ethernet_type hmacs _
    version := by rw [hfirst]; omega
    size := by rw [hip]; omega
    udp := by rw [hat, ipHeader_protocol udp ha httl]
    whole := by rw [hat, ipHeader_whole udp ha]
    within := by
      rw [hip, hend, ← hw]
      simp [hmacs, hsize, ← hudp, hports, hck2]
      omega }
  rw [parseFrame_of_isUdpFrame hframe, hip, hat, ipHeader_dest udp ha httl hck hdest, hpast, hportAt, hpast, hlenAt, hend]
  congr 2
  omega

/-- Settles O10: a frame written field by field is read field by field; each test is one of `IsUdpFrame`. -/
theorem framesAreParsed : Obligations.FramesAreParsed := by
  constructor
  · intro macs tag a ttl ck options ports ck2 rest words flags dest port len hmacs htag hmin hmax _ ha httl hck hoptions hports
      hck2 hdest hport hlen
    simpa [ipHeader] using parseFrame_written (rest := rest) (flags := flags) hmacs htag hmin hmax ha httl hck hoptions hports
      hck2 hdest hport hlen
  · intro w e h
    refine ⟨fun hn => parseFrame_eq_none fun hw => ?_, fun hn => parseFrame_eq_none fun hw => ?_,
      fun hn => parseFrame_eq_none fun hw => hn hw.whole, fun hn => parseFrame_eq_none fun hw => Nat.not_lt.2 hw.within hn,
      fun hipv4 hversion hsize hudp hwhole hwithin => parseFrame_of_isUdpFrame ⟨hipv4, hversion, hsize, hudp, hwhole, hwithin⟩⟩
    · have : e + h + 8 ≤ w.length := hw.within
      exact hn.elim (fun hn => by omega) fun hn => hn hw.ipv4
    · have : e + h + 8 ≤ w.length := hw.within
      rcases hn with hn | hn | hn | hn
      · exact hn hw.version
      · exact Nat.not_lt.2 hw.size hn
      · exact hn hw.udp
      · omega

end Sys2Proof.Machine
end

section
/-! ## The Feed Classifier: which outcome a hand-off has, and how it leaves (R62 to R73, R129) -/

namespace Sys2Proof.Machine

set_option Elab.async false

/-! ### The entry matched (R65) -/

/-- The entry whose group and port are those of the frame. -/
def FeedSlot.Hit (p : Parsed) (f : FeedSlot) : Prop := f.cfg.group = p.dest ∧ f.cfg.port = p.port

theorem matchFeed_eq_none {feeds : List FeedSlot} {p : Parsed} (h : ∀ f ∈ feeds, ¬ f.Hit p) : matchFeed feeds p = none := by
  have hfind : feeds.find? (fun f => decide (f.cfg.group = p.dest) && decide (f.cfg.port = p.port)) = none := by
    simpa [FeedSlot.Hit] using h
  simp only [matchFeed, hfind]

/-- The first entry that the address and the port match is the one taken, with its place in the map. -/
theorem matchFeed_first {pre post : List FeedSlot} {f : FeedSlot} {p : Parsed} (hhit : f.Hit p) (hpre : ∀ x ∈ pre, ¬ x.Hit p) :
    matchFeed (pre ++ f :: post) p = some (pre.length, f) := by
  let hit := fun (f : FeedSlot) => decide (f.cfg.group = p.dest) && decide (f.cfg.port = p.port)
  have hf : hit f = true := by simpa [hit, FeedSlot.Hit] using hhit
  have hno : ∀ x ∈ pre, ¬ hit x = true := by simpa [hit, FeedSlot.Hit] using hpre
  have hfind : (pre ++ f :: post).find? hit = some f := by
    rw [List.find?_append, List.find?_eq_none.2 hno, Option.none_or, List.find?_cons_of_pos hf]
  have hindex : (pre ++ f :: post).findIdx hit = pre.length := by
    rw [List.findIdx_append, if_neg (by simpa using hno), List.findIdx_cons, hf]
    simp
  simp only [matchFeed]
  rw [hfind, hindex]

/-! ### The range of a frame that matches an entry (R62 to R64, R69) -/

theorem Parsed.badBounds_iff (p : Parsed) (length : Nat) :
    p.badBounds length = true ↔ p.udpLength < 8 ∨ length < p.udpLength - 8 + 4 + p.payload := by
  simp [Parsed.badBounds]

theorem FeedCfg.fits_iff (f : FeedCfg) (l : Nat) :
    f.fits l = true ↔ f.seqOffset + f.seqWidth ≤ l ∧ ∀ co, f.countOffset = some co → co + 2 ≤ l := by
  unfold FeedCfg.fits
  cases f.countOffset <;> simp

theorem rangeOverflows_iff (first count : Nat) :
    rangeOverflows first count = true ↔ 1 ≤ count ∧ 18446744073709551615 < first + count - 1 := by
  simp [rangeOverflows]

theorem ByteOrder.number_eq (o : ByteOrder) (bs : List Byte) : o.number bs = fromBE (if o = .big then bs else bs.reverse) := by
  cases o <;> rfl

section Range

variable {f : FeedCfg} {h : HandOff} {p : Parsed}

theorem readableRange_badLength (hbad : p.badBounds h.length = true) : readableRange f h p = .inl .badLength := by
  simp [readableRange, hbad]

variable (hbad : ¬ p.badBounds h.length = true)
include hbad

theorem readableRange_shortPayload (hfits : ¬ f.fits p.payloadLength = true) : readableRange f h p = .inl .shortPayload := by
  simp [readableRange, hbad, hfits]

variable (hfits : f.fits p.payloadLength = true) {first count : Nat} (hread : f.readRange h.window p.payload = (first, count))
include hfits hread

theorem readableRange_rangeOverflow (hover : rangeOverflows first count = true) : readableRange f h p = .inl .rangeOverflow := by
  simp [readableRange, hbad, hfits, hread, hover]

theorem readableRange_range (hover : ¬ rangeOverflows first count = true) : readableRange f h p = .inr (first, count) := by
  simp [readableRange, hbad, hfits, hread, hover]

end Range

/-! ### The outcome (R65) -/

section Outcome

theorem classify_unparsed {h : HandOff} (hparse : parseFrame h.window = none) (feeds : List FeedSlot) :
    classify feeds h = .unmatched := by
  simp only [classify, hparse]

variable {feeds : List FeedSlot} {h : HandOff} {p : Parsed} (hparse : parseFrame h.window = some p)
include hparse

theorem classify_no_entry (hmatch : matchFeed feeds p = none) : classify feeds h = .unmatched := by
  simp only [classify, hparse, hmatch]

variable {k : Nat} {f : FeedSlot} (hmatch : matchFeed feeds p = some (k, f))
include hmatch

theorem classify_damaged {cause : FailCause} (hcause : h.cause = some cause) : classify feeds h = .damaged f cause := by
  simp only [classify, hparse, hmatch, hcause]

variable (hcause : h.cause = none)
include hcause

theorem classify_malformed (hline : f.cfg.onLine h.line = true) {cause : MalformedCause}
    (hrange : readableRange f.cfg h p = .inl cause) : classify feeds h = .malformed f cause := by
  simp only [classify, hparse, hmatch, hcause, if_pos hline, hrange]

theorem classify_range (hline : f.cfg.onLine h.line = true) {r : Nat × Nat} (hrange : readableRange f.cfg h p = .inr r) :
    classify feeds h = .range k f r.1 r.2 := by
  simp only [classify, hparse, hmatch, hcause, if_pos hline, hrange]

theorem classify_stray_unread (hline : ¬ f.cfg.onLine h.line = true) {cause : MalformedCause}
    (hrange : readableRange f.cfg h p = .inl cause) : classify feeds h = .stray f 0 0 := by
  simp only [classify, hparse, hmatch, hcause, if_neg hline, hrange]

theorem classify_stray_read (hline : ¬ f.cfg.onLine h.line = true) {r : Nat × Nat}
    (hrange : readableRange f.cfg h p = .inr r) : classify feeds h = .stray f r.1 r.2 := by
  simp only [classify, hparse, hmatch, hcause, if_neg hline, hrange]

end Outcome

/-! ### The oldest hand-off of a line leaves (R66 to R72) -/

/-- The oldest hand-off of the line is taken and carried out by its outcome. -/
theorem exec_classifyHandOff_oldest {i : Line} {s : State} {h : HandOff}
    (hfind : s.handOffs.find? (fun x => decide (x.line = i)) = some h) :
    exec (.classifyHandOff i) s =
      .next (({ s with handOffs := s.handOffs.eraseP (fun x => decide (x.line = i)) } : State).classified h) := by
  simp only [exec_eq_effect, effect, classifyHandOff, hfind]

section Classified

variable {s : State} {h : HandOff} {f : FeedSlot}

theorem State.classified_unmatched (hc : classify s.feeds h = .unmatched) : s.classified h = s.reportUnmatched h := by
  simp only [State.classified, hc]

/-- A damaged frame on a line of its feed keeps its feed, and its chain trimmed to the feed's mode (R66). -/
theorem State.classified_damaged_onLine {cause : FailCause} (hc : classify s.feeds h = .damaged f cause)
    (hline : f.cfg.onLine h.line = true) :
    s.classified h = { s with
      feeds := modifyFeed s.feeds f.cfg.feed (fun x => { x with damaged := bump x.damaged }),
      pool := s.pool.trim h.chain f.cfg.carriage }.handClassifier
        { h.record .damaged f 0 0 with failCause := some cause } := by
  simp only [State.classified, hc, if_pos hline]

/-- A damaged frame on a line not of its feed leaves without feed and chain (R66). -/
theorem State.classified_damaged_offLine {cause : FailCause} (hc : classify s.feeds h = .damaged f cause)
    (hline : f.cfg.onLine h.line = false) :
    s.classified h = { s with
      feeds := modifyFeed s.feeds f.cfg.feed (fun x => { x with damaged := bump x.damaged }),
      pool := s.pool.releaseOpt h.chain }.handClassifier
        { h.record .damaged f 0 0 with failCause := some cause, feed := none, chain := none } := by
  simp [State.classified, hc, hline]

/-- A stray frame carries the range it was given (R68). -/
theorem State.classified_stray {first count : Nat} (hc : classify s.feeds h = .stray f first count) :
    s.classified h = { s with
      feeds := modifyFeed s.feeds f.cfg.feed (fun x => { x with stray := bump x.stray }),
      pool := s.pool.trim h.chain f.cfg.carriage }.handClassifier (h.record .stray f first count) := by
  simp only [State.classified, hc]

theorem State.classified_malformed {cause : MalformedCause} (hc : classify s.feeds h = .malformed f cause) :
    s.classified h = { s with
      feeds := modifyFeed s.feeds f.cfg.feed (fun x => { x with malformed := bump x.malformed }),
      pool := s.pool.trim h.chain f.cfg.carriage }.handClassifier
        { h.record .malformed f 0 0 with malformedCause := some cause } := by
  simp only [State.classified, hc]

/-- A frame with a range goes to the Sequence Arbiter with its chain whole (R70). -/
theorem State.classified_range {k first count : Nat} (hc : classify s.feeds h = .range k f first count) :
    s.classified h = { s with arrivals := s.arrivals ++ [{
      index := k, feed := f.cfg.feed, line := h.line, date := h.date, first := first, count := count, length := h.length,
      chain := h.chain, captured := h.captured, truncated := h.truncated }] } := by
  simp only [State.classified, hc]

end Classified

/-- Settles O11: the outcome by the entry matched, the check, the line and the range; then the branch of each outcome. -/
theorem classifyHandOffByOutcome : Obligations.ClassifyHandOffByOutcome := by
  constructor
  · intro feeds h
    refine ⟨fun hparse => classify_unparsed hparse feeds, fun p hparse => ?_⟩
    refine ⟨fun hno => classify_no_entry hparse (matchFeed_eq_none hno), ?_⟩
    intro pre f post hfeeds hhit hpre mapped l bad fits read first count beyond
    have hmatch : matchFeed feeds p = some (pre.length, f) := hfeeds ▸ matchFeed_first hhit hpre
    have hmapped : f.cfg.onLine h.line = true ↔ mapped := by simp [FeedCfg.onLine, mapped]
    have hbad : p.badBounds h.length = true ↔ bad := p.badBounds_iff h.length
    have hfits : f.cfg.fits p.payloadLength = true ↔ fits := f.cfg.fits_iff l
    have hread : f.cfg.readRange h.window p.payload = (first, count) := by
      simp only [FeedCfg.readRange, ByteOrder.number_eq] <;> rfl
    have hbeyond : rangeOverflows first count = true ↔ beyond := rangeOverflows_iff first count
    have hlong (hb : bad) : readableRange f.cfg h p = .inl .badLength := readableRange_badLength (hbad.2 hb)
    have hshort (hb : ¬ bad) (hf : ¬ fits) : readableRange f.cfg h p = .inl .shortPayload :=
      readableRange_shortPayload (mt hbad.1 hb) (mt hfits.1 hf)
    have hover (hb : ¬ bad) (hf : fits) (ho : beyond) : readableRange f.cfg h p = .inl .rangeOverflow :=
      readableRange_rangeOverflow (mt hbad.1 hb) (hfits.2 hf) hread (hbeyond.2 ho)
    have hrange (hb : ¬ bad) (hf : fits) (ho : ¬ beyond) : readableRange f.cfg h p = .inr (first, count) :=
      readableRange_range (mt hbad.1 hb) (hfits.2 hf) hread (mt hbeyond.1 ho)
    refine ⟨fun cause hcause => classify_damaged hparse hmatch hcause, fun hcause hoff => ⟨fun hnone => ?_, fun hb hf ho => ?_⟩,
      fun hcause hon => ?_⟩
    · obtain ⟨cause, hr⟩ : ∃ cause, readableRange f.cfg h p = .inl cause := by
        by_cases hb : bad
        · exact ⟨_, hlong hb⟩
        · by_cases hf : fits
          · exact ⟨_, hover hb hf ((hnone.resolve_left hb).resolve_left (not_not_intro hf))⟩
          · exact ⟨_, hshort hb hf⟩
      exact classify_stray_unread hparse hmatch hcause (mt hmapped.1 hoff) hr
    · exact classify_stray_read hparse hmatch hcause (mt hmapped.1 hoff) (hrange hb hf ho)
    · have hline := hmapped.2 hon
      exact ⟨fun hb => classify_malformed hparse hmatch hcause hline (hlong hb),
        fun hb hf => classify_malformed hparse hmatch hcause hline (hshort hb hf),
        fun hb hf ho => classify_malformed hparse hmatch hcause hline (hover hb hf ho),
        fun hb hf ho => classify_range hparse hmatch hcause hline (hrange hb hf ho)⟩
  · intro i s h hfind rest keep hand
    rw [exec_classifyHandOff_oldest hfind]
    exact ⟨fun hc => congrArg _ (State.classified_unmatched hc),
      fun f cause hc => ⟨fun hline => congrArg _ (State.classified_damaged_onLine hc hline),
        fun hline => congrArg _ (State.classified_damaged_offLine hc hline)⟩,
      fun f first count hc => congrArg _ (State.classified_stray hc),
      fun f cause hc => congrArg _ (State.classified_malformed hc),
      fun k f first count hc => congrArg _ (State.classified_range hc)⟩

end Sys2Proof.Machine
end

section
/-! ## Lists of pieces: cut, put in order, joined (R78, R85, R93)

What the arbitration tables compute of a range are lists of pieces, pairs of a first and a last sequence. Each operation on them
is described once by the sequences it covers; a list of whole pieces is empty exactly when it covers none. -/

namespace Sys2Proof.Machine

set_option Elab.async false

/-- A sequence lies in one of the pieces. -/
def Covers (ps : List (Nat × Nat)) (n : Nat) : Prop := ∃ p ∈ ps, p.1 ≤ n ∧ n ≤ p.2

/-- Each piece holds its first and its last sequence. -/
def Whole (ps : List (Nat × Nat)) : Prop := ∀ p ∈ ps, p.1 ≤ p.2

/-- Two pieces with no sequence in common. -/
def Disjoined (p q : Nat × Nat) : Prop := p.2 < q.1 ∨ q.2 < p.1

theorem Disjoined.symm {p q : Nat × Nat} (h : Disjoined p q) : Disjoined q p := Or.symm h

@[simp] theorem covers_nil (n : Nat) : ¬ Covers [] n := by simp [Covers]

@[simp] theorem covers_cons (p : Nat × Nat) (ps : List (Nat × Nat)) (n : Nat) :
    Covers (p :: ps) n ↔ (p.1 ≤ n ∧ n ≤ p.2) ∨ Covers ps n := by simp [Covers]

@[simp] theorem covers_append (ps qs : List (Nat × Nat)) (n : Nat) : Covers (ps ++ qs) n ↔ Covers ps n ∨ Covers qs n := by
  simp [Covers, or_and_right, exists_or]

theorem covers_flatMap {α : Type} (xs : List α) (f : α → List (Nat × Nat)) (n : Nat) :
    Covers (xs.flatMap f) n ↔ ∃ x ∈ xs, Covers (f x) n := by
  constructor
  · rintro ⟨p, hp, hn⟩
    obtain ⟨x, hx, hp⟩ := List.mem_flatMap.1 hp
    exact ⟨x, hx, p, hp, hn⟩
  · rintro ⟨x, hx, p, hp, hn⟩
    exact ⟨p, List.mem_flatMap.2 ⟨x, hx, hp⟩, hn⟩

theorem covers_of_perm {ps qs : List (Nat × Nat)} (h : ps.Perm qs) (n : Nat) : Covers ps n ↔ Covers qs n := by
  simp [Covers, h.mem_iff]

theorem whole_nil : Whole [] := nofun

theorem whole_cons {p : Nat × Nat} {ps : List (Nat × Nat)} : Whole (p :: ps) ↔ p.1 ≤ p.2 ∧ Whole ps := List.forall_mem_cons

theorem whole_append {ps qs : List (Nat × Nat)} : Whole (ps ++ qs) ↔ Whole ps ∧ Whole qs := List.forall_mem_append

theorem Whole.eq_nil_iff {ps : List (Nat × Nat)} (h : Whole ps) : ps = [] ↔ ∀ n, ¬ Covers ps n := by
  constructor
  · rintro rfl n
    simp
  · intro hn
    cases ps with
    | nil => rfl
    | cons p ps => exact absurd ⟨p, List.mem_cons_self, le_refl _, h p List.mem_cons_self⟩ (hn p.1)

/-- Two lists of pieces that cover no sequence in common have no two pieces that share one. -/
theorem disjoined_of_covers {ps qs : List (Nat × Nat)} (hps : Whole ps) (hqs : Whole qs)
    (h : ∀ n, Covers ps n → ¬ Covers qs n) : ∀ p ∈ ps, ∀ q ∈ qs, Disjoined p q := by
  intro p hp q hq
  have hp' := hps p hp
  have hq' := hqs q hq
  by_contra hn
  refine h (max p.1 q.1) ⟨p, hp, ?_⟩ ⟨q, hq, ?_⟩ <;> simp only [Disjoined] at hn <;> omega

/-! ### What is cut out of a piece -/

theorem mem_cutOut {s e a b : Nat} {p : Nat × Nat} :
    p ∈ cutOut s e a b ↔ (a < s ∧ p = (a, min b (s - 1))) ∨ (e < b ∧ p = (max a (e + 1), b)) := by
  unfold cutOut
  split <;> split <;> simp_all

theorem covers_cutOut (s e a b n : Nat) : Covers (cutOut s e a b) n ↔ (a ≤ n ∧ n ≤ b) ∧ ¬ (s ≤ n ∧ n ≤ e) := by
  constructor
  · rintro ⟨p, hp, hn⟩
    rcases mem_cutOut.1 hp with ⟨h, rfl⟩ | ⟨h, rfl⟩ <;> dsimp only at hn <;> omega
  · intro hn
    by_cases h : n < s
    · exact ⟨_, mem_cutOut.2 (.inl ⟨by omega, rfl⟩), by dsimp only; omega⟩
    · exact ⟨_, mem_cutOut.2 (.inr ⟨by omega, rfl⟩), by dsimp only; omega⟩

theorem cutOut_bounds {s e a b : Nat} (h : a ≤ b) {p : Nat × Nat} (hp : p ∈ cutOut s e a b) :
    a ≤ p.1 ∧ p.1 ≤ p.2 ∧ p.2 ≤ b ∧ (p.2 < s ∨ e < p.1) := by
  rcases mem_cutOut.1 hp with ⟨h, rfl⟩ | ⟨h, rfl⟩ <;> dsimp only <;> omega

theorem cutOut_whole {s e a b : Nat} (h : a ≤ b) : Whole (cutOut s e a b) := fun _ hp => (cutOut_bounds h hp).2.1

/-- The lower part comes first. -/
theorem cutOut_ordered {s e : Nat} (hse : s ≤ e) (a b : Nat) : (cutOut s e a b).Pairwise (fun p q => p.2 < q.1) := by
  unfold cutOut
  split <;> split <;> simp
  omega

/-- A piece that shares nothing with the range cut out stays as it is. -/
theorem cutOut_of_apart {s e a b : Nat} (hse : s ≤ e) (hab : a ≤ b) (h : b < s ∨ e < a) : cutOut s e a b = [(a, b)] := by
  unfold cutOut
  rcases h with h | h
  · rw [if_pos (by omega), if_neg (by omega), min_eq_left (by omega), List.append_nil]
  · rw [if_neg (by omega), if_pos (by omega), max_eq_left (by omega), List.nil_append]

/-- What is left of a piece that shares a sequence with the range cut out. -/
theorem cutOut_of_overlap {s e a b : Nat} (h : ¬ (b < s ∨ e < a)) :
    cutOut s e a b = (if a < s then [(a, s - 1)] else []) ++ (if e < b then [(e + 1, b)] else []) := by
  unfold cutOut
  rw [min_eq_right (by omega), max_eq_right (by omega)]

theorem covers_removeHoles (holes ps : List (Nat × Nat)) (n : Nat) :
    Covers (removeHoles ps holes) n ↔ Covers ps n ∧ ¬ Covers holes n := by
  induction holes generalizing ps with
  | nil => simp [removeHoles]
  | cons h hs ih =>
    have hcut : Covers (ps.flatMap (fun q => cutOut h.1 h.2 q.1 q.2)) n ↔ Covers ps n ∧ ¬ (h.1 ≤ n ∧ n ≤ h.2) := by
      rw [covers_flatMap]
      constructor
      · rintro ⟨p, hp, hc⟩
        obtain ⟨hn, hh⟩ := (covers_cutOut ..).1 hc
        exact ⟨⟨p, hp, hn⟩, hh⟩
      · rintro ⟨⟨p, hp, hn⟩, hh⟩
        exact ⟨p, hp, (covers_cutOut ..).2 ⟨hn, hh⟩⟩
    have := ih (ps.flatMap (fun q => cutOut h.1 h.2 q.1 q.2))
    simp only [removeHoles, List.foldl_cons] at this ⊢
    rw [this, hcut, covers_cons, not_or, and_assoc]

theorem removeHoles_whole (holes : List (Nat × Nat)) {ps : List (Nat × Nat)} (h : Whole ps) : Whole (removeHoles ps holes) := by
  induction holes generalizing ps with
  | nil => exact h
  | cons x xs ih =>
    refine ih fun p hp => ?_
    obtain ⟨q, hq, hp⟩ := List.mem_flatMap.1 hp
    exact cutOut_whole (h q hq) p hp

/-! ### The part of a piece inside a range -/

theorem overlap_eq_some {s e a b : Nat} {p : Nat × Nat} :
    overlap s e a b = some p ↔ max s a ≤ min e b ∧ p = (max s a, min e b) := by
  unfold overlap
  split <;> simp_all [eq_comm]

theorem covers_overlap {α : Type} (xs : List α) (f : α → Nat × Nat) (s e n : Nat) :
    Covers (xs.filterMap (fun x => overlap s e (f x).1 (f x).2)) n ↔ (s ≤ n ∧ n ≤ e) ∧ Covers (xs.map f) n := by
  constructor
  · rintro ⟨p, hp, hn⟩
    obtain ⟨x, hx, hov⟩ := List.mem_filterMap.1 hp
    obtain ⟨-, rfl⟩ := overlap_eq_some.1 hov
    exact ⟨by dsimp only at hn; omega, f x, List.mem_map_of_mem hx, by dsimp only at hn; omega⟩
  · rintro ⟨hse, q, hq, hn⟩
    obtain ⟨x, hx, rfl⟩ := List.mem_map.1 hq
    exact ⟨_, List.mem_filterMap.2 ⟨x, hx, overlap_eq_some.2 ⟨by omega, rfl⟩⟩, by dsimp only; omega⟩

theorem overlap_whole {α : Type} (xs : List α) (f : α → Nat × Nat) (s e : Nat) :
    Whole (xs.filterMap (fun x => overlap s e (f x).1 (f x).2)) := by
  intro p hp
  obtain ⟨x, -, hov⟩ := List.mem_filterMap.1 hp
  obtain ⟨h, rfl⟩ := overlap_eq_some.1 hov
  exact h

/-- Parts of pieces that share nothing share nothing. -/
theorem overlap_disjoined {α : Type} {xs : List α} {f : α → Nat × Nat} (h : (xs.map f).Pairwise Disjoined) (s e : Nat) :
    (xs.filterMap (fun x => overlap s e (f x).1 (f x).2)).Pairwise Disjoined := by
  refine (List.pairwise_map.1 h).filterMap _ fun x y hxy p hp q hq => ?_
  obtain ⟨-, rfl⟩ := overlap_eq_some.1 hp
  obtain ⟨-, rfl⟩ := overlap_eq_some.1 hq
  simp only [Disjoined] at hxy ⊢
  omega

/-! ### Pieces in ascending order -/

/-- A list sorted by a number of each member is in ascending order of it. -/
theorem insertionSort_sorted {α : Type} (key : α → Nat) (xs : List α) :
    (xs.insertionSort (fun x y => key x ≤ key y)).Pairwise (fun x y => key x ≤ key y) := by
  have total : Std.Total (fun x y : α => key x ≤ key y) := ⟨fun x y => Nat.le_total (key x) (key y)⟩
  have trans : IsTrans α (fun x y => key x ≤ key y) := ⟨fun _ _ _ => Nat.le_trans⟩
  exact List.pairwise_insertionSort _ xs

theorem insertPiece_eq (p : Nat × Nat) (qs : List (Nat × Nat)) :
    insertPiece p qs = qs.orderedInsert (fun x y => x.1 ≤ y.1) p := by
  induction qs with
  | nil => rfl
  | cons q qs ih => rw [insertPiece, List.orderedInsert, ih]

theorem sortPieces_eq (ps : List (Nat × Nat)) : sortPieces ps = ps.insertionSort (fun x y => x.1 ≤ y.1) := by
  induction ps with
  | nil => rfl
  | cons p ps ih => rw [List.insertionSort_cons, ← ih, ← insertPiece_eq]; rfl

theorem sortPieces_perm (ps : List (Nat × Nat)) : (sortPieces ps).Perm ps := sortPieces_eq ps ▸ List.perm_insertionSort _ ps

theorem sortPieces_sorted (ps : List (Nat × Nat)) : (sortPieces ps).Pairwise (fun x y => x.1 ≤ y.1) :=
  sortPieces_eq ps ▸ insertionSort_sorted Prod.fst ps

theorem sortPieces_whole {ps : List (Nat × Nat)} (h : Whole ps) : Whole (sortPieces ps) :=
  fun p hp => h p ((sortPieces_perm ps).subset hp)

/-- Whole pieces that share nothing stand one wholly below the next once they are in order. -/
theorem sortPieces_ordered {ps : List (Nat × Nat)} (hwhole : Whole ps) (h : ps.Pairwise Disjoined) :
    (sortPieces ps).Pairwise (fun x y => x.2 < y.1) := by
  have hdis : (sortPieces ps).Pairwise Disjoined :=
    (List.Perm.pairwise_iff (fun h => Disjoined.symm h) (sortPieces_perm ps)).2 h
  refine ((sortPieces_sorted ps).and hdis).imp_of_mem fun {x y} _ hy hxy => ?_
  have := sortPieces_whole hwhole y hy
  obtain ⟨hle, hd⟩ := hxy
  unfold Disjoined at hd
  omega

/-! ### Pieces joined into runs -/

/-- What joining a piece to the pieces above it can do: stand alone below them, or take the first of them in. -/
theorem joinPieces_cons (p : Nat × Nat) (ps : List (Nat × Nat)) :
    (joinPieces ps = [] ∧ joinPieces (p :: ps) = [p]) ∨
      ∃ q qs, joinPieces ps = q :: qs ∧
        ((q.1 ≤ p.2 + 1 ∧ joinPieces (p :: ps) = (p.1, max p.2 q.2) :: qs) ∨
          (p.2 + 1 < q.1 ∧ joinPieces (p :: ps) = p :: q :: qs)) := by
  rw [joinPieces]
  split
  next h => exact .inl ⟨h, rfl⟩
  next q qs h =>
    refine .inr ⟨q, qs, h, ?_⟩
    split
    next hq => exact .inl ⟨hq, rfl⟩
    next hq => exact .inr ⟨by omega, rfl⟩

theorem joinPieces_whole {ps : List (Nat × Nat)} (h : Whole ps) : Whole (joinPieces ps) := by
  induction ps with
  | nil => exact h
  | cons p ps ih =>
    obtain ⟨hp, hps⟩ := whole_cons.1 h
    have ih := ih hps
    rcases joinPieces_cons p ps with ⟨-, e⟩ | ⟨q, qs, hruns, ⟨-, e⟩ | ⟨-, e⟩⟩ <;> rw [e]
    · exact whole_cons.2 ⟨hp, whole_nil⟩
    · rw [hruns] at ih
      exact whole_cons.2 ⟨hp.trans (le_max_left _ _), (whole_cons.1 ih).2⟩
    · exact whole_cons.2 ⟨hp, hruns ▸ ih⟩

/-- No run begins below the first of the pieces. -/
theorem joinPieces_lower {ps : List (Nat × Nat)} {a : Nat} (h : ∀ p ∈ ps, a ≤ p.1) : ∀ q ∈ joinPieces ps, a ≤ q.1 := by
  induction ps with
  | nil => simp [joinPieces]
  | cons p ps ih =>
    obtain ⟨hp, hps⟩ := List.forall_mem_cons.1 h
    have ih := ih hps
    rcases joinPieces_cons p ps with ⟨-, e⟩ | ⟨q, qs, hruns, ⟨-, e⟩ | ⟨-, e⟩⟩ <;> rw [e]
    · exact List.forall_mem_cons.2 ⟨hp, nofun⟩
    · rw [hruns] at ih
      exact List.forall_mem_cons.2 ⟨hp, (List.forall_mem_cons.1 ih).2⟩
    · exact List.forall_mem_cons.2 ⟨hp, hruns ▸ ih⟩

theorem covers_joinPieces {ps : List (Nat × Nat)} (h : ps.Pairwise (fun x y => x.1 ≤ y.1)) (n : Nat) :
    Covers (joinPieces ps) n ↔ Covers ps n := by
  induction ps with
  | nil => rfl
  | cons p ps ih =>
    obtain ⟨hp, hps⟩ := List.pairwise_cons.1 h
    have ih := ih hps
    have hlow := joinPieces_lower hp
    rcases joinPieces_cons p ps with ⟨hruns, e⟩ | ⟨q, qs, hruns, ⟨hq, e⟩ | ⟨-, e⟩⟩ <;>
      rw [e, covers_cons, covers_cons p ps, ← ih, hruns]
    · have hle : p.1 ≤ q.1 := hlow q (hruns ▸ List.mem_cons_self)
      rw [covers_cons, ← or_assoc]
      refine or_congr_left ?_
      dsimp only
      omega

/-- Whole pieces in order that share nothing join into maximal runs. -/
theorem joinPieces_apart {ps : List (Nat × Nat)} (hwhole : Whole ps) (h : ps.Pairwise (fun x y => x.2 < y.1)) :
    (joinPieces ps).Pairwise (fun x y => x.2 + 1 < y.1) := by
  induction ps with
  | nil => exact .nil
  | cons p ps ih =>
    obtain ⟨hp, hps⟩ := List.pairwise_cons.1 h
    have hw : Whole ps := fun q hq => hwhole q (List.mem_cons_of_mem p hq)
    have ih := ih hw hps
    have hlow := joinPieces_lower (a := p.2 + 1) hp
    have hruns := joinPieces_whole hw
    rcases joinPieces_cons p ps with ⟨-, e⟩ | ⟨q, qs, hfirst, hcase⟩
    · simp [e]
    · rw [hfirst] at ih hlow hruns
      obtain ⟨hq, hqs⟩ := List.pairwise_cons.1 ih
      have hlowq := hlow q List.mem_cons_self
      have hwq := hruns q List.mem_cons_self
      rcases hcase with ⟨hle, e⟩ | ⟨hlt, e⟩ <;> rw [e]
      · refine List.pairwise_cons.2 ⟨fun r hr => ?_, hqs⟩
        have := hq r hr
        dsimp only
        omega
      · refine List.pairwise_cons.2 ⟨fun r hr => ?_, ih⟩
        rcases List.mem_cons.1 hr with rfl | hr
        · exact hlt
        · have := hq r hr
          omega

/-- The runs made of pieces in any order. -/
theorem covers_runs (ps : List (Nat × Nat)) (n : Nat) : Covers (joinPieces (sortPieces ps)) n ↔ Covers ps n :=
  (covers_joinPieces (sortPieces_sorted ps) n).trans (covers_of_perm (sortPieces_perm ps) n)

theorem runs_whole {ps : List (Nat × Nat)} (h : Whole ps) : Whole (joinPieces (sortPieces ps)) :=
  joinPieces_whole (sortPieces_whole h)

theorem runs_apart {ps : List (Nat × Nat)} (hwhole : Whole ps) (h : ps.Pairwise Disjoined) :
    (joinPieces (sortPieces ps)).Pairwise (fun x y => x.2 + 1 < y.1) :=
  joinPieces_apart (sortPieces_whole hwhole) (sortPieces_ordered hwhole h)

end Sys2Proof.Machine
end

section
/-! ## The arbitration table: classes of sequences, gaps, and the range log (R75 to R78, R92 to R94) -/

namespace Sys2Proof.Machine

set_option Elab.async false

/-- The sequences of a gap. -/
def Gap.span (g : Gap) : Nat × Nat := (g.first, g.last)

/-- The sequences of a range log entry. -/
def LogEntry.span (x : LogEntry) : Nat × Nat := (x.first, x.last)

/-- A sequence lies in one of the gaps. -/
abbrev Gapped (gaps : List Gap) (n : Nat) : Prop := Covers (gaps.map Gap.span) n

theorem covers_map {α : Type} (f : α → Nat × Nat) (xs : List α) (n : Nat) :
    Covers (xs.map f) n ↔ ∃ x ∈ xs, (f x).1 ≤ n ∧ n ≤ (f x).2 := by simp [Covers]

theorem gapped_iff (gaps : List Gap) (n : Nat) : Gapped gaps n ↔ ∃ g ∈ gaps, g.first ≤ n ∧ n ≤ g.last := covers_map _ _ _

theorem Table.h_of_high {t : Table} {h : Nat} (hh : t.high = some h) : t.h = h := by simp [Table.h, hh]

/-! ### Lost sequences -/

theorem LogEntry.contains_iff (x : LogEntry) (n : Nat) : x.contains n = true ↔ x.first ≤ n ∧ n ≤ x.last := by
  simp [LogEntry.contains]

theorem Table.isLost_iff (t : Table) (n : Nat) :
    t.isLost n = true ↔ ∃ x ∈ t.log, x.kind = .lost ∧ x.first ≤ n ∧ n ≤ x.last := by
  simp [Table.isLost, LogEntry.contains_iff]

theorem mem_lostRanges {t : Table} {p : Nat × Nat} : p ∈ t.lostRanges ↔ ∃ x ∈ t.log, x.kind = .lost ∧ p = x.span := by
  simp [Table.lostRanges, LogEntry.span, eq_comm]

theorem covers_lostRanges (t : Table) (n : Nat) : Covers t.lostRanges n ↔ t.isLost n = true := by
  rw [Table.isLost_iff]
  constructor
  · rintro ⟨p, hp, hn⟩
    obtain ⟨x, hx, hk, rfl⟩ := mem_lostRanges.1 hp
    exact ⟨x, hx, hk, hn⟩
  · rintro ⟨x, hx, hk, hn⟩
    exact ⟨x.span, mem_lostRanges.2 ⟨x, hx, hk, rfl⟩, hn⟩

/-! ### The runs and parts of a range (R78) -/

section Classes

variable (t : Table) {a b : Nat}

/-- The pieces of a range that are in gaps, or at or above H. -/
def Table.unseenPieces (a b : Nat) : List (Nat × Nat) :=
  t.gaps.filterMap (fun g => overlap a b g.span.1 g.span.2) ++ if t.h ≤ b then [(max a t.h, b)] else []

/-- The pieces of a range that are in LOST entries. -/
def Table.lostPieces (a b : Nat) : List (Nat × Nat) := t.lostRanges.filterMap (fun p => overlap a b p.1 p.2)

theorem Table.unseenRuns_eq (a b : Nat) : t.unseenRuns a b = joinPieces (sortPieces (t.unseenPieces a b)) := rfl

theorem Table.lostRuns_eq (a b : Nat) : t.lostRuns a b = joinPieces (sortPieces (t.lostPieces a b)) := rfl

theorem Table.unseenPieces_whole (hab : a ≤ b) : Whole (t.unseenPieces a b) := by
  refine whole_append.2 ⟨overlap_whole _ _ _ _, ?_⟩
  split
  · exact whole_cons.2 ⟨by dsimp only; omega, whole_nil⟩
  · exact whole_nil

theorem Table.lostPieces_whole (a b : Nat) : Whole (t.lostPieces a b) := overlap_whole t.lostRanges id a b

theorem Table.covers_unseenRuns (a b n : Nat) :
    Covers (t.unseenRuns a b) n ↔ (a ≤ n ∧ n ≤ b) ∧ (t.h ≤ n ∨ Gapped t.gaps n) := by
  have htop : Covers (if t.h ≤ b then [(max a t.h, b)] else []) n ↔ (a ≤ n ∧ n ≤ b) ∧ t.h ≤ n := by
    split
    · rw [covers_cons, or_iff_left (covers_nil n)]
      dsimp only
      omega
    · exact iff_of_false (covers_nil n) (by omega)
  rw [t.unseenRuns_eq, covers_runs, Table.unseenPieces, covers_append, covers_overlap, htop, ← and_or_left, or_comm]

theorem Table.covers_lostRuns (a b n : Nat) : Covers (t.lostRuns a b) n ↔ (a ≤ n ∧ n ≤ b) ∧ t.isLost n = true := by
  have hmap : Covers (t.lostRanges.map id) n ↔ t.isLost n = true := by rw [List.map_id, covers_lostRanges]
  rw [t.lostRuns_eq, covers_runs, ← hmap]
  exact covers_overlap t.lostRanges id a b n

theorem Table.covers_seenParts (a b n : Nat) :
    Covers (t.seenParts a b) n ↔ (a ≤ n ∧ n ≤ b) ∧ n < t.h ∧ ¬ Gapped t.gaps n ∧ ¬ t.isLost n = true := by
  unfold Table.seenParts
  split
  · rw [covers_removeHoles, covers_append, covers_lostRanges, covers_cons, or_iff_left (covers_nil n), not_or,
      ← and_assoc (b := n < t.h)]
    refine and_congr_left fun _ => ?_
    dsimp only
    omega
  · exact iff_of_false (covers_nil n) (by omega)

theorem Table.unseenRuns_whole (hab : a ≤ b) : Whole (t.unseenRuns a b) := runs_whole (t.unseenPieces_whole hab)

theorem Table.lostRuns_whole (a b : Nat) : Whole (t.lostRuns a b) := runs_whole (t.lostPieces_whole a b)

theorem Table.seenParts_whole (hab : a ≤ b) : Whole (t.seenParts a b) := by
  unfold Table.seenParts
  split
  · exact removeHoles_whole _ (whole_cons.2 ⟨by dsimp only; omega, whole_nil⟩)
  · exact whole_nil

/-- Of a table whose gaps are in order below H the runs of unseen sequences are maximal. -/
theorem Table.unseenRuns_apart (hgaps : gapsSound t.gaps t.h) (hab : a ≤ b) :
    (t.unseenRuns a b).Pairwise (fun x y => x.2 + 1 < y.1) := by
  obtain ⟨hordered, hbelow⟩ := hgaps
  refine runs_apart (t.unseenPieces_whole hab) (List.pairwise_append.2 ⟨overlap_disjoined (f := Gap.span) ?_ a b, ?_, ?_⟩)
  · exact List.pairwise_map.2 (hordered.imp Or.inl)
  · split <;> simp
  · intro p hp q hq
    obtain ⟨g, hg, hov⟩ := List.mem_filterMap.1 hp
    obtain ⟨-, rfl⟩ := overlap_eq_some.1 hov
    have hlast := (hbelow g hg).2
    split at hq
    · obtain rfl := List.mem_singleton.1 hq
      simp only [Disjoined]
      omega
    · exact absurd hq List.not_mem_nil

/-- Where no sequence is in two entries the runs of lost sequences are maximal. -/
theorem Table.lostRuns_apart (hlog : t.log.Pairwise (fun x y => x.last < y.first ∨ y.last < x.first)) (a b : Nat) :
    (t.lostRuns a b).Pairwise (fun x y => x.2 + 1 < y.1) := by
  refine runs_apart (t.lostPieces_whole a b) (overlap_disjoined (f := id) ?_ a b)
  rw [List.map_id]
  refine hlog.filterMap _ fun x y hxy p hp q hq => ?_
  obtain ⟨-, ⟨⟩⟩ := Option.ite_none_right_eq_some.1 hp
  obtain ⟨-, ⟨⟩⟩ := Option.ite_none_right_eq_some.1 hq
  exact hxy

end Classes

/-! ### A gap list cut by a range (R93) -/

theorem mem_fillGaps {gaps : List Gap} {s e : Nat} {x : Gap} :
    x ∈ fillGaps gaps s e ↔ ∃ g ∈ gaps, ∃ p ∈ cutOut s e g.first g.last, x = { g with first := p.1, last := p.2 } := by
  simp [fillGaps, eq_comm]

theorem fillGaps_spans (gaps : List Gap) (s e : Nat) :
    (fillGaps gaps s e).map Gap.span = removeHoles (gaps.map Gap.span) [(s, e)] := by
  simp only [fillGaps, removeHoles, List.foldl_cons, List.foldl_nil, List.map_flatMap, List.flatMap_map, List.map_map]
  exact congrArg (gaps.flatMap ·) (funext fun g => List.map_id _)

theorem gapped_fillGaps (gaps : List Gap) (s e n : Nat) :
    Gapped (fillGaps gaps s e) n ↔ Gapped gaps n ∧ ¬ (s ≤ n ∧ n ≤ e) := by
  rw [Gapped, fillGaps_spans, covers_removeHoles, covers_cons, or_iff_left (covers_nil n)]

theorem fillGaps_sound {gaps : List Gap} {s e h : Nat} (hse : s ≤ e) (hgaps : gapsSound gaps h) :
    gapsSound (fillGaps gaps s e) h := by
  obtain ⟨hordered, hbelow⟩ := hgaps
  constructor
  · refine List.pairwise_flatMap.2 ⟨fun g _ => List.pairwise_map.2 (cutOut_ordered hse g.first g.last), ?_⟩
    refine hordered.imp_of_mem fun {g k} hg hk hgk x hx y hy => ?_
    obtain ⟨p, hp, rfl⟩ := List.mem_map.1 hx
    obtain ⟨q, hq, rfl⟩ := List.mem_map.1 hy
    obtain ⟨-, -, hp, -⟩ := cutOut_bounds (hbelow g hg).1 hp
    obtain ⟨hq, -⟩ := cutOut_bounds (hbelow k hk).1 hq
    dsimp only
    omega
  · intro x hx
    obtain ⟨g, hg, p, hp, rfl⟩ := mem_fillGaps.1 hx
    obtain ⟨hle, hlt⟩ := hbelow g hg
    obtain ⟨-, hp, hp', -⟩ := cutOut_bounds hle hp
    dsimp only
    omega

/-- Gaps that share nothing with the range stay as they are. -/
theorem fillGaps_of_apart {gaps : List Gap} {s e : Nat} (hse : s ≤ e) (hgaps : ∀ g ∈ gaps, g.first ≤ g.last)
    (h : ∀ g ∈ gaps, g.last < s ∨ e < g.first) : fillGaps gaps s e = gaps := by
  induction gaps with
  | nil => rfl
  | cons g gs ih =>
    obtain ⟨hg, hgs⟩ := List.forall_mem_cons.1 hgaps
    obtain ⟨hg', hgs'⟩ := List.forall_mem_cons.1 h
    have hrest := ih hgs hgs'
    rw [fillGaps, List.flatMap_cons, cutOut_of_apart hse hg hg', ← fillGaps, hrest]
    rfl

/-- A range cuts at most one gap in two. -/
theorem fillGaps_length {gaps : List Gap} {s e h : Nat} (hse : s ≤ e) (hgaps : gapsSound gaps h) :
    (fillGaps gaps s e).length ≤ gaps.length + 1 := by
  obtain ⟨hordered, hbelow⟩ := hgaps
  induction gaps with
  | nil => simp [fillGaps]
  | cons g gs ih =>
    obtain ⟨hg, hgs⟩ := List.pairwise_cons.1 hordered
    have hwhole : ∀ k ∈ gs, k.first ≤ k.last := fun k hk => (hbelow k (List.mem_cons_of_mem g hk)).1
    have hrest := ih hgs fun k hk => hbelow k (List.mem_cons_of_mem g hk)
    have hcons : (fillGaps (g :: gs) s e).length = (cutOut s e g.first g.last).length + (fillGaps gs s e).length := by
      simp [fillGaps]
    rw [hcons, List.length_cons]
    by_cases hsplit : g.first < s ∧ e < g.last
    · rw [fillGaps_of_apart hse hwhole fun k hk => .inr (hsplit.2.trans (hg k hk))]
      simp [cutOut, hsplit]
      omega
    · have : (cutOut s e g.first g.last).length ≤ 1 := by
        unfold cutOut
        split <;> split <;> simp
        omega
      omega

/-! ### The gap opened below a range (R92) -/

theorem openGap_of_above {h s : Nat} (hs : h < s) (gaps : List Gap) (now hold : Nat) :
    openGap gaps h s now hold = gaps ++ [{ first := h, last := s - 1, opened := now, deadline := now + hold }] := if_pos hs

theorem openGap_of_not_above {h s : Nat} (hs : ¬ h < s) (gaps : List Gap) (now hold : Nat) : openGap gaps h s now hold = gaps :=
  if_neg hs

theorem gapped_openGap (gaps : List Gap) (h s now hold n : Nat) :
    Gapped (openGap gaps h s now hold) n ↔ Gapped gaps n ∨ (h ≤ n ∧ n < s) := by
  by_cases hs : h < s
  · rw [openGap_of_above hs, Gapped, List.map_append, covers_append, List.map_singleton, covers_cons,
      or_iff_left (covers_nil n)]
    refine or_congr_right ?_
    simp only [Gap.span]
    omega
  · rw [openGap_of_not_above hs]
    exact (or_iff_left (by omega)).symm

theorem openGap_sound {gaps : List Gap} {h s high : Nat} (hgaps : gapsSound gaps h) (hh : h ≤ high) (hs : s ≤ high)
    (now hold : Nat) : gapsSound (openGap gaps h s now hold) high := by
  obtain ⟨hordered, hbelow⟩ := hgaps
  have hbelow' : ∀ g ∈ gaps, g.first ≤ g.last ∧ g.last < high := fun g hg =>
    ⟨(hbelow g hg).1, (hbelow g hg).2.trans_le hh⟩
  by_cases habove : h < s
  · rw [openGap_of_above habove]
    refine ⟨List.pairwise_append.2 ⟨hordered, by simp, fun g hg k hk => ?_⟩,
      List.forall_mem_append.2 ⟨hbelow', fun k hk => ?_⟩⟩ <;>
      obtain rfl := List.mem_singleton.1 hk <;> dsimp only
    · exact (hbelow g hg).2
    · omega
  · rw [openGap_of_not_above habove]
    exact ⟨hordered, hbelow'⟩

/-- A range splits a gap or opens one, never both. -/
theorem openGap_fillGaps_length {gaps : List Gap} {h s e : Nat} (hse : s ≤ e) (hgaps : gapsSound gaps h) (now hold : Nat) :
    (openGap (fillGaps gaps s e) h s now hold).length ≤ gaps.length + 1 := by
  by_cases habove : h < s
  · have hapart : fillGaps gaps s e = gaps :=
      fillGaps_of_apart hse (fun g hg => (hgaps.2 g hg).1) fun g hg => .inl ((hgaps.2 g hg).2.trans habove)
    rw [openGap_of_above habove, hapart, List.length_append, List.length_singleton]
  · rw [openGap_of_not_above habove]
    exact fillGaps_length hse hgaps

/-! ### The eviction of the lowest gap (R94) -/

/-- What the eviction can do: nothing to at most eight gaps; of more the lowest goes. -/
theorem evictGap_cases (gaps : List Gap) :
    (gaps.length ≤ 8 ∧ evictGap gaps = (gaps, none)) ∨
      ∃ g rest, gaps = g :: rest ∧ 8 ≤ rest.length ∧ evictGap gaps = (rest, some g) := by
  unfold evictGap
  split
  next h =>
    obtain ⟨g, rest, rfl⟩ := List.exists_cons_of_length_pos (Nat.zero_lt_of_lt h)
    exact .inr ⟨g, rest, rfl, by simpa [Config.gapLimit, Nat.lt_succ_iff] using h, rfl⟩
  next h => exact .inl ⟨by simpa [Config.gapLimit] using h, rfl⟩

/-! ### The range log (R77) -/

theorem insertEntry_eq (x : LogEntry) (ys : List LogEntry) :
    insertEntry x ys = ys.orderedInsert (fun x y => x.first ≤ y.first) x := by
  induction ys with
  | nil => rfl
  | cons y ys ih => rw [insertEntry, List.orderedInsert, ih]

/-- New entries in ascending order of first sequence (R85). -/
def sortEntries (xs : List LogEntry) : List LogEntry := xs.insertionSort (fun x y => x.first ≤ y.first)

theorem sortEntries_perm (xs : List LogEntry) : (sortEntries xs).Perm xs := List.perm_insertionSort _ xs

theorem sortEntries_sorted (xs : List LogEntry) : (sortEntries xs).Pairwise (fun x y => x.first ≤ y.first) :=
  insertionSort_sorted LogEntry.first xs

theorem foldr_insertEntry (xs : List LogEntry) : xs.foldr insertEntry [] = sortEntries xs := by
  induction xs with
  | nil => rfl
  | cons x xs ih => rw [List.foldr_cons, ih, insertEntry_eq]; rfl

/-- Entries inserted one by one: the oldest beyond 64 go (R77). -/
theorem foldl_logInsert (xs log : List LogEntry) (h : log.length ≤ 64 ∨ xs ≠ []) :
    xs.foldl logInsert log = (log ++ xs).drop (log.length + xs.length - 64) := by
  induction xs generalizing log with
  | nil =>
    have : log.length - 64 = 0 := by simpa [Nat.sub_eq_zero_iff_le] using h
    simp [this]
  | cons x xs ih =>
    have hlen : (logInsert log x).length = log.length + 1 - (log.length + 1 - 64) := by simp [logInsert, Config.logLimit]
    have hinsert : logInsert log x ++ xs = (log ++ x :: xs).drop (log.length + 1 - 64) := by
      have hle : log.length + 1 - 64 ≤ (log ++ [x]).length := by
        rw [List.length_append, List.length_singleton]
        omega
      rw [logInsert, Config.logLimit, ← List.drop_append_of_le_length hle, List.append_assoc, List.singleton_append]
    rw [List.foldl_cons, ih _ (.inl (by omega)), hinsert, List.drop_drop, hlen, List.length_cons]
    congr 1
    omega

theorem logInsertAll_eq {log : List LogEntry} (h : log.length ≤ 64) (xs : List LogEntry) :
    logInsertAll log xs = (log ++ sortEntries xs).drop (log.length + (sortEntries xs).length - 64) := by
  rw [logInsertAll, foldr_insertEntry, foldl_logInsert _ _ (.inl h)]

end Sys2Proof.Machine
end

section
/-! ## A sound table stays sound: a range entered, gaps lost, a table started or reset (R75 to R78, R81 to R85, R92 to R95) -/

namespace Sys2Proof.Machine

set_option Elab.async false

/-- A gap list and a range log below a high mark: each sound, and no sequence in two places (R76, R77). -/
structure TableFits (gaps : List Gap) (log : List LogEntry) (h : Nat) : Prop where
  gapsFit : gapsSound gaps h
  logFit : logSound log h
  entries : log.Pairwise (fun x y => x.last < y.first ∨ y.last < x.first)
  between : ∀ g ∈ gaps, ∀ x ∈ log, g.last < x.first ∨ x.last < g.first

/-- A table that is sound, with no sequence in two places. -/
def Table.Good (t : Table) : Prop := t.Sound ∧ t.Apart

theorem Table.sound_iff_of_high {t : Table} {h : Nat} (hh : t.high = some h) :
    t.Sound ↔ gapsSound t.gaps h ∧ logSound t.log h ∧ t.gaps.length ≤ 8 ∧ t.log.length ≤ 64 := by
  simp only [Table.Sound, hh]
  rfl

theorem Table.good_iff_of_high {t : Table} {h : Nat} (hh : t.high = some h) :
    t.Good ↔ TableFits t.gaps t.log h ∧ t.gaps.length ≤ 8 ∧ t.log.length ≤ 64 := by
  rw [Table.Good, Table.sound_iff_of_high hh]
  constructor
  · rintro ⟨⟨hgaps, hlog, hlengths⟩, hentries, hbetween⟩
    exact ⟨⟨hgaps, hlog, hentries, hbetween⟩, hlengths⟩
  · rintro ⟨⟨hgaps, hlog, hentries, hbetween⟩, hlengths⟩
    exact ⟨⟨hgaps, hlog, hlengths⟩, hentries, hbetween⟩

theorem Table.good_iff_of_unsynced {t : Table} (hh : t.high = none) : t.Good ↔ t.gaps = [] ∧ t.log = [] := by
  simp only [Table.Good, Table.Sound, hh]
  refine ⟨And.left, fun h => ⟨h, ?_⟩⟩
  simp [Table.Apart, h.1, h.2]

/-- The counters of a table are not part of its soundness. -/
theorem Table.Good.of_eq {t u : Table} (h : t.Good) (hhigh : u.high = t.high) (hgaps : u.gaps = t.gaps) (hlog : u.log = t.log) :
    u.Good := by
  simpa only [Table.Good, Table.Sound, Table.Apart, hhigh, hgaps, hlog] using h

theorem Table.good_empty : ({} : Table).Good := (Table.good_iff_of_unsynced rfl).2 ⟨rfl, rfl⟩

/-! ### The log in another order, with its oldest entries gone, and with lost gaps added -/

namespace TableFits

variable {gaps : List Gap} {log : List LogEntry} {h : Nat}

theorem perm (f : TableFits gaps log h) {log' : List LogEntry} (hp : log.Perm log') : TableFits gaps log' h where
  gapsFit := f.gapsFit
  logFit x hx := f.logFit x (hp.symm.subset hx)
  entries := (hp.pairwise_iff fun hxy => Or.symm hxy).1 f.entries
  between g hg x hx := f.between g hg x (hp.symm.subset hx)

theorem sublist (f : TableFits gaps log h) {log' : List LogEntry} (hs : log'.Sublist log) : TableFits gaps log' h where
  gapsFit := f.gapsFit
  logFit x hx := f.logFit x (hs.subset hx)
  entries := f.entries.sublist hs
  between g hg x hx := f.between g hg x (hs.subset hx)

/-- The mark may rise over a table. -/
theorem raise (f : TableFits gaps log h) {high : Nat} (hh : h ≤ high) : TableFits gaps log high where
  gapsFit := ⟨f.gapsFit.1, fun g hg => ⟨(f.gapsFit.2 g hg).1, (f.gapsFit.2 g hg).2.trans_le hh⟩⟩
  logFit x hx := by
    obtain ⟨hle, hlt, hk⟩ := f.logFit x hx
    exact ⟨hle, hlt.trans_le hh, hk⟩
  entries := f.entries
  between := f.between

/-- Gaps that leave the list may stand in the log as LOST entries (R94, R95). -/
theorem lose (f : TableFits gaps log h) {out keep : List Gap} (hp : (out ++ keep).Perm gaps) (hs : keep.Sublist gaps) :
    TableFits keep (log ++ out.map (fun g => lostEntry g.first g.last)) h := by
  have hapart : (out ++ keep).Pairwise (fun a b => a.last < b.first ∨ b.last < a.first) :=
    (hp.pairwise_iff fun hxy => Or.symm hxy).2 (f.gapsFit.1.imp .inl)
  obtain ⟨hout, -, hcross⟩ := List.pairwise_append.1 hapart
  have hmem : ∀ g ∈ out, g ∈ gaps := fun g hg => hp.subset (List.mem_append_left keep hg)
  refine ⟨⟨f.gapsFit.1.sublist hs, fun g hg => f.gapsFit.2 g (hs.subset hg)⟩, ?_, ?_, ?_⟩
  · refine List.forall_mem_append.2 ⟨f.logFit, List.forall_mem_map.2 fun g hg => ?_⟩
    obtain ⟨hle, hlt⟩ := f.gapsFit.2 g (hmem g hg)
    exact ⟨hle, hlt, by simp [lostEntry]⟩
  · refine List.pairwise_append.2 ⟨f.entries, List.pairwise_map.2 hout, fun x hx => List.forall_mem_map.2 fun g hg => ?_⟩
    exact (f.between g (hmem g hg) x hx).symm
  · intro k hk
    refine List.forall_mem_append.2 ⟨f.between k (hs.subset hk), List.forall_mem_map.2 fun g hg => ?_⟩
    exact (hcross g hg k hk).symm

/-- The eviction of R94 with the LOST entry it makes. -/
theorem evict (f : TableFits gaps log h) : TableFits (evictGap gaps).1 (log ++ evictedEntry (evictGap gaps).2) h := by
  rcases evictGap_cases gaps with ⟨-, e⟩ | ⟨g, rest, rfl, -, e⟩ <;> rw [e]
  · simpa [evictedEntry] using f
  · exact f.lose (out := [g]) (.refl _) (List.sublist_cons_self g rest)

end TableFits

theorem evictGap_length_le {gaps : List Gap} (h : gaps.length ≤ 9) : (evictGap gaps).1.length ≤ 8 := evictGap_length gaps h

/-! ### What is left of an entry when a range is claimed (R85 step 2) -/

/-- What stays in an entry's place. -/
def LogEntry.kept (x : LogEntry) (s e : Nat) : Option LogEntry :=
  if x.kind ≠ .lost ∨ x.last < s ∨ e < x.first then some x
  else if x.first < s then some { x with last := s - 1 }
  else if e < x.last then some { x with first := e + 1 }
  else none

/-- The upper part of a LOST entry of which both parts remain. -/
def LogEntry.upper (x : LogEntry) (s e : Nat) : Option LogEntry :=
  if x.kind = .lost ∧ x.first < s ∧ e < x.last then some (lostEntry (e + 1) x.last) else none

section Entry

variable {x : LogEntry} {s e : Nat}

theorem LogEntry.shrinkLost_eq (hse : s ≤ e) (hx : x.first ≤ x.last) : x.shrinkLost s e = (x.kept s e).toList := by
  unfold LogEntry.shrinkLost LogEntry.kept
  by_cases hk : x.kind = .lost
  · rw [if_pos hk]
    by_cases hapart : x.last < s ∨ e < x.first
    · rw [cutOut_of_apart hse hx hapart, if_pos (.inr hapart)]
      rfl
    · obtain ⟨hlast, hfirst⟩ := not_or.1 hapart
      rw [cutOut_of_overlap hapart]
      by_cases hlow : x.first < s <;> by_cases hhigh : e < x.last <;> simp [hk, hlast, hfirst, hlow, hhigh]
  · rw [if_neg hk, if_pos (.inl hk)]
    rfl

theorem LogEntry.upperLost_eq (hse : s ≤ e) (hx : x.first ≤ x.last) : x.upperLost s e = (x.upper s e).toList := by
  unfold LogEntry.upperLost LogEntry.upper
  by_cases hk : x.kind = .lost
  · rw [if_pos hk]
    by_cases hapart : x.last < s ∨ e < x.first
    · rw [cutOut_of_apart hse hx hapart, if_neg (by omega)]
      rfl
    · rw [cutOut_of_overlap hapart]
      by_cases hlow : x.first < s <;> by_cases hhigh : e < x.last <;> simp [hk, hlow, hhigh]
  · rw [if_neg hk, if_neg (by tauto)]
    rfl

/-- What is left of an entry: its kind and winner, within its range, and of a LOST entry nothing within the range claimed. -/
theorem LogEntry.mem_left (hse : s ≤ e) (hx : x.first ≤ x.last) (hw : x.kind = .lost → x.winner = none) {y : LogEntry}
    (hy : x.kept s e = some y ∨ x.upper s e = some y) :
    y.kind = x.kind ∧ y.winner = x.winner ∧ x.first ≤ y.first ∧ y.first ≤ y.last ∧ y.last ≤ x.last ∧
      (x.kind = .lost → y.last < s ∨ e < y.first) := by
  unfold LogEntry.kept LogEntry.upper at hy
  rcases hy with hy | hy
  · split at hy
    next hc => cases hy; exact ⟨rfl, rfl, le_rfl, hx, le_rfl, fun hk => hc.resolve_left (not_not_intro hk)⟩
    next hc =>
      split at hy
      · cases hy; exact ⟨rfl, rfl, le_rfl, by dsimp only; omega, by dsimp only; omega, fun _ => .inl (by dsimp only; omega)⟩
      · split at hy
        · cases hy; exact ⟨rfl, rfl, by dsimp only; omega, by dsimp only; omega, le_rfl, fun _ => .inr (by dsimp only; omega)⟩
        · cases hy
  · obtain ⟨⟨hk, hlow, hhigh⟩, ⟨⟩⟩ := Option.ite_none_right_eq_some.1 hy
    simp only [lostEntry]
    exact ⟨hk.symm, (hw hk).symm, by omega, by omega, le_rfl, fun _ => .inr (by omega)⟩

theorem LogEntry.kept_upper_apart {y z : LogEntry} (hse : s ≤ e) (hy : x.kept s e = some y) (hz : x.upper s e = some z) :
    y.last < z.first := by
  obtain ⟨⟨hk, hlow, hhigh⟩, ⟨⟩⟩ := Option.ite_none_right_eq_some.1 hz
  rw [LogEntry.kept, if_neg (by simp only [hk, ne_eq, not_true_eq_false, false_or]; omega), if_pos hlow] at hy
  cases hy
  simp only [lostEntry]
  omega

end Entry

end Sys2Proof.Machine
end

section
/-! ## A range entered into a sound table (R85) -/

namespace Sys2Proof.Machine

set_option Elab.async false

/-- A sequence of an entry is below H and in no gap. -/
theorem TableFits.of_covers_log {gaps : List Gap} {log : List LogEntry} {h n : Nat} (f : TableFits gaps log h)
    (hn : Covers (log.map LogEntry.span) n) : n < h ∧ ¬ Gapped gaps n := by
  obtain ⟨x, hx, hn⟩ := (covers_map _ _ _).1 hn
  refine ⟨hn.2.trans_lt (f.logFit x hx).2.1, fun hg => ?_⟩
  obtain ⟨g, hg, hn'⟩ := (covers_map _ _ _).1 hg
  have := f.between g hg x hx
  simp only [Gap.span, LogEntry.span] at hn hn'
  omega

theorem TableFits.apart_of_ne {gaps : List Gap} {log : List LogEntry} {h : Nat} (f : TableFits gaps log h) {x y : LogEntry}
    (hx : x ∈ log) (hy : y ∈ log) (hne : x ≠ y) : x.last < y.first ∨ y.last < x.first := by
  have symm : Std.Symm (fun x y : LogEntry => x.last < y.first ∨ y.last < x.first) := ⟨fun _ _ => Or.symm⟩
  exact f.entries.forall hx hy hne

/-- A sequence in two entries makes them one. -/
theorem TableFits.entry_unique {gaps : List Gap} {log : List LogEntry} {h n : Nat} (f : TableFits gaps log h) {x y : LogEntry}
    (hx : x ∈ log) (hy : y ∈ log) (hnx : x.first ≤ n ∧ n ≤ x.last) (hny : y.first ≤ n ∧ n ≤ y.last) : x = y := by
  by_contra hne
  have := f.apart_of_ne hx hy hne
  omega

namespace Table

variable (t : Table) (c : Claim)

/-! ### The entries and gaps that a claim leaves and makes -/

/-- The entries that stay, LOST ones shrunk. -/
def keptEntries : List LogEntry := t.log.filterMap (fun x => x.kept c.first c.last)

/-- The upper parts of LOST entries cut in two. -/
def upperEntries : List LogEntry := t.log.filterMap (fun x => x.upper c.first c.last)

/-- The entries of the claim's winner: the unseen runs, then the lost runs. -/
def claimEntries : List LogEntry :=
  (t.unseenRuns c.first c.last).map (claimEntry c.kind c.winner) ++
    (t.lostRuns c.first c.last).map (claimEntry .lateClaim c.winner)

/-- The gap list with the range claimed and the gap below it opened, before an eviction. -/
def cutGaps : List Gap := openGap (fillGaps t.gaps c.first c.last) t.h c.first c.now c.hold

/-- The new entries in the order in which the procedure makes them. -/
def newEntries : List LogEntry := t.claimEntries c ++ t.upperEntries c ++ evictedEntry (evictGap (t.cutGaps c)).2

theorem enter_high : (t.enter c).1.high = some (max t.h (c.last + 1)) := rfl

theorem enter_gaps : (t.enter c).1.gaps = (evictGap (t.cutGaps c)).1 := rfl

theorem enter_losses : (t.enter c).2 = evictedLoss (evictGap (t.cutGaps c)).2 := rfl

theorem enter_counts : (t.enter c).1.counts = t.counts.countEvicted (evictGap (t.cutGaps c)).2 := rfl

theorem enter_peer : (t.enter c).1.peer = t.peer := rfl

variable {t c}

theorem enter_log (hc : c.first ≤ c.last) (hlog : ∀ x ∈ t.log, x.first ≤ x.last) (hlen : t.log.length ≤ 64) :
    (t.enter c).1.log = (t.keptEntries c ++ sortEntries (t.newEntries c)).drop
      ((t.keptEntries c).length + (sortEntries (t.newEntries c)).length - 64) := by
  have hkept : t.log.flatMap (fun x => x.shrinkLost c.first c.last) = t.keptEntries c := by
    rw [keptEntries, List.filterMap_eq_flatMap_toList]
    exact List.flatMap_congr fun x hx => LogEntry.shrinkLost_eq hc (hlog x hx)
  have hupper : t.log.flatMap (fun x => x.upperLost c.first c.last) = t.upperEntries c := by
    rw [upperEntries, List.filterMap_eq_flatMap_toList]
    exact List.flatMap_congr fun x hx => LogEntry.upperLost_eq hc (hlog x hx)
  have hlen' : (t.keptEntries c).length ≤ 64 := (List.length_filterMap_le _ _).trans hlen
  rw [← logInsertAll_eq hlen', ← hkept, newEntries, claimEntries, ← hupper]
  rfl

/-! ### Their sequences -/

theorem mem_left (hc : c.first ≤ c.last) {h : Nat} (hlog : logSound t.log h) {y : LogEntry}
    (hy : y ∈ t.keptEntries c ++ t.upperEntries c) :
    ∃ x ∈ t.log, y.kind = x.kind ∧ y.winner = x.winner ∧ x.first ≤ y.first ∧ y.first ≤ y.last ∧ y.last ≤ x.last ∧
      (x.kind = .lost → y.last < c.first ∨ c.last < y.first) := by
  rw [List.mem_append, keptEntries, upperEntries, List.mem_filterMap, List.mem_filterMap, ← exists_or] at hy
  obtain ⟨x, hy⟩ := hy
  rw [← and_or_left] at hy
  obtain ⟨hle, -, hw⟩ := hlog x hy.1
  exact ⟨x, hy.1, LogEntry.mem_left hc hle hw.1 hy.2⟩

theorem left_logSound (hc : c.first ≤ c.last) {h : Nat} (hlog : logSound t.log h) :
    logSound (t.keptEntries c ++ t.upperEntries c) h := by
  intro y hy
  obtain ⟨x, hx, hkind, hwinner, -, hle, hlast, -⟩ := mem_left hc hlog hy
  obtain ⟨-, hlt, hw⟩ := hlog x hx
  exact ⟨hle, hlast.trans_lt hlt, by rw [hkind, hwinner, hw]⟩

/-- No sequence left in the log is in a gap or at H, and none of the range claimed is left as lost. -/
theorem of_covers_left (hc : c.first ≤ c.last) {h n : Nat} (f : TableFits t.gaps t.log h)
    (hn : Covers ((t.keptEntries c ++ t.upperEntries c).map LogEntry.span) n) :
    n < h ∧ ¬ Gapped t.gaps n ∧ (t.isLost n = true → ¬ (c.first ≤ n ∧ n ≤ c.last)) := by
  obtain ⟨y, hy, hny⟩ := (covers_map _ _ _).1 hn
  obtain ⟨x, hx, -, -, hfirst, -, hlast, hout⟩ := mem_left hc f.logFit hy
  simp only [LogEntry.span] at hny
  have hnx : x.first ≤ n ∧ n ≤ x.last := by omega
  obtain ⟨hlt, hgap⟩ := f.of_covers_log ((covers_map _ _ _).2 ⟨x, hx, hnx⟩)
  refine ⟨hlt, hgap, fun hlost => ?_⟩
  obtain ⟨z, hz, hk, hnz⟩ := (t.isLost_iff n).1 hlost
  obtain rfl := f.entry_unique hx hz hnx hnz
  have := hout hk
  omega

theorem left_apart (hc : c.first ≤ c.last) {h : Nat} (f : TableFits t.gaps t.log h) :
    (t.keptEntries c ++ t.upperEntries c).Pairwise (fun x y => x.last < y.first ∨ y.last < x.first) := by
  have hleft (x : LogEntry) (hx : x ∈ t.log) {y : LogEntry}
      (hy : x.kept c.first c.last = some y ∨ x.upper c.first c.last = some y) :
      x.first ≤ y.first ∧ y.last ≤ x.last := by
    obtain ⟨hle, -, hw⟩ := f.logFit x hx
    obtain ⟨-, -, hfirst, -, hlast, -⟩ := LogEntry.mem_left hc hle hw.1 hy
    exact ⟨hfirst, hlast⟩
  refine List.pairwise_append.2 ⟨?_, ?_, fun y hy z hz => ?_⟩
  · refine List.pairwise_filterMap.2 (f.entries.imp_of_mem fun {x x'} hx hx' hxx y hy z hz => ?_)
    have := hleft x hx (.inl hy)
    have := hleft x' hx' (.inl hz)
    omega
  · refine List.pairwise_filterMap.2 (f.entries.imp_of_mem fun {x x'} hx hx' hxx y hy z hz => ?_)
    have := hleft x hx (.inr hy)
    have := hleft x' hx' (.inr hz)
    omega
  · obtain ⟨x, hx, hy⟩ := List.mem_filterMap.1 hy
    obtain ⟨x', hx', hz⟩ := List.mem_filterMap.1 hz
    by_cases he : x = x'
    · subst he
      exact .inl (LogEntry.kept_upper_apart hc hy hz)
    · have := f.apart_of_ne hx hx' he
      have := hleft x hx (.inl hy)
      have := hleft x' hx' (.inr hz)
      omega

theorem claimEntries_spans :
    (t.claimEntries c).map LogEntry.span = t.unseenRuns c.first c.last ++ t.lostRuns c.first c.last := by
  rw [claimEntries, List.map_append, List.map_map, List.map_map]
  exact congrArg₂ _ (List.map_id _) (List.map_id _)

theorem covers_claimEntries (n : Nat) :
    Covers ((t.claimEntries c).map LogEntry.span) n ↔
      (c.first ≤ n ∧ n ≤ c.last) ∧ (t.h ≤ n ∨ Gapped t.gaps n ∨ t.isLost n = true) := by
  rw [claimEntries_spans, covers_append, covers_unseenRuns, covers_lostRuns, ← and_or_left, or_assoc]

theorem claimEntries_whole (hc : c.first ≤ c.last) : Whole ((t.claimEntries c).map LogEntry.span) := by
  rw [claimEntries_spans]
  exact whole_append.2 ⟨t.unseenRuns_whole hc, t.lostRuns_whole _ _⟩

/-- A claim entry: its winner and kind, and its place within the range. -/
theorem mem_claimEntries (hc : c.first ≤ c.last) {x : LogEntry} (hx : x ∈ t.claimEntries c) :
    x.winner = some c.winner ∧ (x.kind = c.kind ∨ x.kind = .lateClaim) ∧
      c.first ≤ x.first ∧ x.first ≤ x.last ∧ x.last ≤ c.last := by
  have hle : x.first ≤ x.last := claimEntries_whole hc _ (List.mem_map_of_mem hx)
  have hcover : ∀ n, x.first ≤ n → n ≤ x.last → c.first ≤ n ∧ n ≤ c.last := fun n h1 h2 =>
    ((covers_claimEntries n).1 ⟨x.span, List.mem_map_of_mem hx, h1, h2⟩).1
  refine ⟨?_, ?_, (hcover _ le_rfl hle).1, hle, (hcover _ hle le_rfl).2⟩ <;>
    rcases List.mem_append.1 hx with hx | hx <;> obtain ⟨r, -, rfl⟩ := List.mem_map.1 hx
  · rfl
  · rfl
  · exact .inl rfl
  · exact .inr rfl

theorem claimEntries_apart (hc : c.first ≤ c.last) (f : TableFits t.gaps t.log t.h) :
    (t.claimEntries c).Pairwise (fun x y => x.last < y.first ∨ y.last < x.first) := by
  have hpair : ((t.claimEntries c).map LogEntry.span).Pairwise Disjoined := by
    rw [claimEntries_spans]
    refine List.pairwise_append.2 ⟨?_, ?_, disjoined_of_covers (t.unseenRuns_whole hc) (t.lostRuns_whole _ _) fun n hu hl => ?_⟩
    · exact (t.unseenRuns_apart f.gapsFit hc).imp fun hxy => .inl (by omega)
    · exact (t.lostRuns_apart f.entries _ _).imp fun hxy => .inl (by omega)
    · obtain ⟨-, hunseen⟩ := (t.covers_unseenRuns _ _ n).1 hu
      obtain ⟨x, hx, -, hnx⟩ := (t.isLost_iff n).1 ((t.covers_lostRuns _ _ n).1 hl).2
      obtain ⟨hlt, hgap⟩ := f.of_covers_log ((covers_map _ _ _).2 ⟨x, hx, hnx⟩)
      exact hunseen.elim (by omega) hgap
  exact List.pairwise_map.1 hpair

theorem gapped_cutGaps (n : Nat) :
    Gapped (t.cutGaps c) n ↔ (Gapped t.gaps n ∧ ¬ (c.first ≤ n ∧ n ≤ c.last)) ∨ (t.h ≤ n ∧ n < c.first) := by
  rw [cutGaps, gapped_openGap, gapped_fillGaps]

theorem cutGaps_sound (hc : c.first ≤ c.last) (hgaps : gapsSound t.gaps t.h) : gapsSound (t.cutGaps c) (max t.h (c.last + 1)) :=
  openGap_sound (fillGaps_sound hc hgaps) (le_max_left _ _) (by omega) _ _

/-! ### The table after -/

/-- What is left of the log and the claim's entries fit about the gaps. -/
theorem entered_fits (hc : c.first ≤ c.last) (hk : c.kind ≠ .lost) (f : TableFits t.gaps t.log t.h) :
    TableFits (t.cutGaps c) ((t.keptEntries c ++ t.upperEntries c) ++ t.claimEntries c) (max t.h (c.last + 1)) := by
  have hgaps := cutGaps_sound hc f.gapsFit
  have hleft := left_logSound hc f.logFit
  have hleftWhole : Whole ((t.keptEntries c ++ t.upperEntries c).map LogEntry.span) :=
    List.forall_mem_map.2 fun y hy => (hleft y hy).1
  refine ⟨hgaps, List.forall_mem_append.2 ⟨fun y hy => ?_, fun y hy => ?_⟩, List.pairwise_append.2 ⟨left_apart hc f,
    claimEntries_apart hc f, fun y hy z hz => ?_⟩, fun g hg y hy => ?_⟩
  · obtain ⟨hle, hlt, hw⟩ := hleft y hy
    exact ⟨hle, by omega, hw⟩
  · obtain ⟨hwinner, hkind, -, hle, hlast⟩ := mem_claimEntries hc hy
    refine ⟨hle, by omega, ?_⟩
    rw [hwinner]
    rcases hkind with e | e <;> simp [e, hk]
  · refine disjoined_of_covers hleftWhole (claimEntries_whole hc) (fun n hn hn' => ?_) y.span (List.mem_map_of_mem hy) z.span
      (List.mem_map_of_mem hz)
    obtain ⟨hlt, hgap, hlost⟩ := of_covers_left hc f hn
    obtain ⟨hin, hunseen | hgapped | hl⟩ := (covers_claimEntries n).1 hn'
    · omega
    · exact hgap hgapped
    · exact hlost hl hin
  · have hgapsWhole : Whole ((t.cutGaps c).map Gap.span) := List.forall_mem_map.2 fun g hg => (hgaps.2 g hg).1
    have hlogWhole := whole_append.2 ⟨hleftWhole, claimEntries_whole (t := t) hc⟩
    refine disjoined_of_covers hgapsWhole hlogWhole (fun n hn hn' => ?_) g.span (List.mem_map_of_mem hg) y.span
      (by rw [← List.map_append]; exact List.mem_map_of_mem hy)
    have hn := (gapped_cutGaps n).1 hn
    rcases (covers_append _ _ _).1 hn' with hn' | hn'
    · obtain ⟨hlt, hgap, -⟩ := of_covers_left hc f hn'
      rcases hn with ⟨hg, -⟩ | hn
      · exact hgap hg
      · omega
    · obtain ⟨hin, -⟩ := (covers_claimEntries n).1 hn'
      omega

/-- The new log before its oldest entries go, in another order. -/
theorem enteredLog_perm :
    (((t.keptEntries c ++ t.upperEntries c) ++ t.claimEntries c) ++ evictedEntry (evictGap (t.cutGaps c)).2).Perm
      (t.keptEntries c ++ sortEntries (t.newEntries c)) := by
  refine .trans ?_ ((sortEntries_perm (t.newEntries c)).symm.append_left _)
  rw [newEntries, List.append_assoc, List.append_assoc, ← List.append_assoc (t.upperEntries c)]
  exact (List.perm_append_comm.append_right _).append_left _

/-- A range entered into a good table leaves it good. -/
theorem enter_good {h : Nat} (ht : t.Good) (hh : t.high = some h) (hc : c.first ≤ c.last) (hk : c.kind ≠ .lost) :
    (t.enter c).1.Good := by
  obtain ⟨f, hgaps, hlog⟩ := (good_iff_of_high hh).1 ht
  rw [← h_of_high hh] at f
  refine (good_iff_of_high (t.enter_high c)).2 ⟨?_, ?_, ?_⟩
  · rw [enter_gaps, enter_log hc (fun x hx => (f.logFit x hx).1) hlog]
    exact ((entered_fits hc hk f).evict.perm enteredLog_perm).sublist (List.drop_sublist _ _)
  · have := openGap_fillGaps_length hc f.gapsFit c.now c.hold
    exact evictGap_length_le (this.trans (by omega))
  · rw [enter_log hc (fun x hx => (f.logFit x hx).1) hlog, List.length_drop, List.length_append]
    omega

end Table

end Sys2Proof.Machine
end

section
/-! ## Every table stays sound (R75 to R78, R80 to R85, R92 to R95, R106 to R113) -/

namespace Sys2Proof.Machine

set_option Elab.async false

/-! ### The first range of a table, a reset, a keepalive (R81, R82, R84) -/

theorem tableFits_single {x : LogEntry} (hle : x.first ≤ x.last) (hw : x.kind = .lost ↔ x.winner = none) :
    TableFits [] [x] (x.last + 1) where
  gapsFit := ⟨.nil, nofun⟩
  logFit y hy := by
    obtain rfl := List.mem_singleton.1 hy
    exact ⟨hle, Nat.lt_succ_self _, hw⟩
  entries := List.pairwise_singleton _ _
  between := nofun

theorem tableFits_claim {c : Claim} (hc : c.first ≤ c.last) (hk : c.kind ≠ .lost) :
    TableFits [] [claimEntry c.kind c.winner (c.first, c.last)] (c.last + 1) :=
  tableFits_single (x := claimEntry c.kind c.winner (c.first, c.last)) hc (iff_of_false hk nofun)

theorem Table.resetTo_good (t : Table) {c : Claim} (hc : c.first ≤ c.last) (hk : c.kind ≠ .lost) : (t.resetTo c).1.Good :=
  (Table.good_iff_of_high rfl).2 ⟨tableFits_claim hc hk, Nat.zero_le _, by simp [Table.resetTo]⟩

theorem Table.start_good {t : Table} (ht : t.Good) (hh : t.high = none) {c : Claim} (hc : c.first ≤ c.last)
    (hk : c.kind ≠ .lost) : (t.start c).Good := by
  obtain ⟨hgaps, hlog⟩ := (Table.good_iff_of_unsynced hh).1 ht
  refine (Table.good_iff_of_high (h := c.last + 1) rfl).2 ?_
  have hgaps' : (t.start c).gaps = [] := hgaps
  have hlog' : (t.start c).log = [claimEntry c.kind c.winner (c.first, c.last)] := by
    simp [Table.start, hlog, logInsert, Config.logLimit]
  rw [hgaps', hlog']
  exact ⟨tableFits_claim hc hk, Nat.zero_le _, by simp⟩

/-- A gap opened at H, up to a higher mark. -/
theorem TableFits.gapOpened {gaps : List Gap} {log : List LogEntry} {h s : Nat} (f : TableFits gaps log h) (hs : h < s)
    (now hold : Nat) : TableFits (openGap gaps h s now hold) log s := by
  obtain ⟨hgaps, hlog, hentries, -⟩ := f.raise hs.le
  refine ⟨openGap_sound f.gapsFit hs.le le_rfl now hold, hlog, hentries, ?_⟩
  rw [openGap_of_above hs]
  refine List.forall_mem_append.2 ⟨f.between, fun g hg x hx => ?_⟩
  obtain rfl := List.mem_singleton.1 hg
  exact .inr (f.logFit x hx).2.1

theorem Table.keepalive_good {t : Table} (ht : t.Good) (s now hold jump : Nat) : (t.keepalive s now hold jump).1.Good := by
  unfold Table.keepalive
  split
  next hh =>
    obtain ⟨hgaps, hlog⟩ := (Table.good_iff_of_unsynced hh).1 ht
    refine (Table.good_iff_of_high (h := s) rfl).2 ?_
    simp only [hgaps, hlog]
    exact ⟨⟨⟨.nil, nofun⟩, nofun, .nil, nofun⟩, Nat.zero_le _, Nat.zero_le _⟩
  next h hh =>
    split
    next hs =>
      obtain ⟨f, hgaps, hlog⟩ := (Table.good_iff_of_high hh).1 ht
      refine (Table.good_iff_of_high (h := s) rfl).2 ?_
      dsimp only
      rw [logInsertAll_eq hlog]
      refine ⟨?_, evictGap_length_le ?_, by rw [List.length_drop, List.length_append]; omega⟩
      · refine ((f.gapOpened hs.1 now hold).evict.perm ?_).sublist (List.drop_sublist _ _)
        exact (sortEntries_perm _).symm.append_left _
      · rw [openGap_of_above hs.1, List.length_append, List.length_singleton]
        omega
    next => exact ht

/-! ### An entry with a new winner (R91, R110, R111, R113) -/

theorem Table.entryAt_eq_none {t : Table} {n : Nat} : t.entryAt n = none ↔ ∀ x ∈ t.log, n < x.first ∨ x.last < n := by
  simp only [Table.entryAt, List.find?_eq_none, LogEntry.contains_iff]
  exact forall₂_congr fun x _ => by omega

/-- The entry that contains a sequence is the first that does. -/
theorem Table.entryAt_eq_some {t : Table} {n : Nat} {x : LogEntry} :
    t.entryAt n = some x ↔ (x.first ≤ n ∧ n ≤ x.last) ∧
      ∃ pre post, t.log = pre ++ x :: post ∧ ∀ y ∈ pre, n < y.first ∨ y.last < n := by
  simp only [Table.entryAt, List.find?_eq_some_iff_append, LogEntry.contains_iff, Bool.not_eq_true', ← Bool.not_eq_true]
  refine and_congr_right fun _ => exists₂_congr fun pre post => and_congr_right fun _ => forall₂_congr fun y _ => ?_
  omega

theorem Table.rename_of_none {t : Table} {n : Nat} (h : t.entryAt n = none) (k : EntryKind) (w : Winner) :
    t.rename n k w = t := by
  have hidx : t.log.findIdx (fun x => x.contains n) = t.log.length := by simpa [Table.entryAt] using h
  rw [Table.rename, hidx, List.modify_eq_self le_rfl]

theorem modify_length_append {α : Type} (f : α → α) (pre : List α) (x : α) (post : List α) :
    (pre ++ x :: post).modify pre.length f = pre ++ f x :: post := by
  induction pre with
  | nil => rfl
  | cons y pre ih => exact congrArg (y :: ·) ih

theorem Table.rename_of_entry {t : Table} {n : Nat} {x : LogEntry} {pre post : List LogEntry} (hlog : t.log = pre ++ x :: post)
    (hpre : ∀ y ∈ pre, n < y.first ∨ y.last < n) (hx : x.first ≤ n ∧ n ≤ x.last) (k : EntryKind) (w : Winner) :
    t.rename n k w = { t with log := pre ++ { x with kind := k, winner := some w } :: post } := by
  have hidx : t.log.findIdx (fun x => x.contains n) = pre.length := by
    have hnone : pre.findIdx (fun x => x.contains n) = pre.length := by
      refine List.findIdx_eq_length.2 fun y hy => ?_
      have := hpre y hy
      rw [← Bool.not_eq_true, LogEntry.contains_iff]
      omega
    have hhit : (x :: post).findIdx (fun x => x.contains n) = 0 := by
      simp [List.findIdx_cons, (LogEntry.contains_iff x n).2 hx]
    rw [hlog, List.findIdx_append, hnone, if_neg (lt_irrefl _), hhit, Nat.zero_add]
  rw [Table.rename, hidx, hlog, modify_length_append]

/-- An entry's kind and winner may change together. -/
theorem TableFits.rename {gaps : List Gap} {pre post : List LogEntry} {x y : LogEntry} {h : Nat}
    (f : TableFits gaps (pre ++ x :: post) h) (hspan : y.span = x.span) (hw : y.kind = .lost ↔ y.winner = none) :
    TableFits gaps (pre ++ y :: post) h := by
  obtain ⟨hfirst, hlast⟩ : y.first = x.first ∧ y.last = x.last := Prod.mk.injEq .. ▸ hspan
  obtain ⟨hgaps, hlog, hentries, hbetween⟩ := f
  simp only [logSound, List.forall_mem_append, List.forall_mem_cons] at hlog hbetween
  simp only [List.pairwise_append, List.pairwise_cons, List.forall_mem_cons] at hentries
  refine ⟨hgaps, ?_, ?_, ?_⟩ <;>
    simp only [logSound, List.pairwise_append, List.pairwise_cons, List.forall_mem_append, List.forall_mem_cons, hfirst, hlast]
  · exact ⟨hlog.1, ⟨hlog.2.1.1, hlog.2.1.2.1, hw⟩, hlog.2.2⟩
  · exact hentries
  · exact hbetween

theorem Table.good_setLog {t : Table} {log : List LogEntry} {h : Nat} (hh : t.high = some h) (f : TableFits t.gaps log h)
    (hgaps : t.gaps.length ≤ 8) (hlog : log.length ≤ 64) : ({ t with log := log } : Table).Good :=
  (Table.good_iff_of_high (t := { t with log := log }) hh).2 ⟨f, hgaps, hlog⟩

theorem Table.rename_good {t : Table} (ht : t.Good) (n : Nat) {k : EntryKind} (hk : k ≠ .lost) (w : Winner) :
    (t.rename n k w).Good := by
  cases he : t.entryAt n with
  | none => rwa [Table.rename_of_none he]
  | some x =>
    obtain ⟨hx, pre, post, hlog, hpre⟩ := Table.entryAt_eq_some.1 he
    rw [Table.rename_of_entry hlog hpre hx]
    rcases Option.eq_none_or_eq_some t.high with hh | ⟨h, hh⟩
    · simp [((Table.good_iff_of_unsynced hh).1 ht).2] at hlog
    · obtain ⟨f, hgaps, hlen⟩ := (Table.good_iff_of_high hh).1 ht
      rw [hlog] at f hlen
      exact Table.good_setLog hh (f.rename (y := { x with kind := k, winner := some w }) rfl (iff_of_false hk nofun)) hgaps
        (by simpa using hlen)

/-! ### The gaps of a deadline expire (R95) -/

/-- The table after an expiry: the gaps of the deadline gone, the log with their LOST entries. -/
theorem Table.expire_log {t : Table} {d : Nat} (h : t.log.length ≤ 64 ∨ t.expiring d ≠ []) :
    (t.expire d).log = (t.log ++ (t.expiring d).map (fun g => lostEntry g.first g.last)).drop
      (t.log.length + ((t.expiring d).map (fun g => lostEntry g.first g.last)).length - 64) :=
  foldl_logInsert _ _ (h.imp_right (mt List.map_eq_nil_iff.1))

theorem Table.expire_good {t : Table} (ht : t.Good) (d : Nat) : (t.expire d).Good := by
  cases hh : t.high with
  | none =>
    obtain ⟨hgaps, hlog⟩ := (Table.good_iff_of_unsynced hh).1 ht
    refine (Table.good_iff_of_unsynced (t := t.expire d) hh).2 ⟨?_, ?_⟩ <;> simp [Table.expire, Table.expiring, hgaps, hlog]
  | some h =>
    obtain ⟨f, hgaps, hlog⟩ := (Table.good_iff_of_high hh).1 ht
    refine (Table.good_iff_of_high (t := t.expire d) (h := h) hh).2 ⟨?_, (List.length_filter_le _ _).trans hgaps, ?_⟩
    · rw [Table.expire_log (.inl hlog)]
      have hperm : (t.expiring d ++ (t.expire d).gaps).Perm t.gaps := by
        simpa [Table.expiring, Table.expire] using List.filter_append_perm (fun g => decide (g.deadline = d)) t.gaps
      exact (f.lose hperm List.filter_sublist).sublist (List.drop_sublist _ _)
    · rw [Table.expire_log (.inl hlog), List.length_drop, List.length_append]
      omega

/-! ### The judgements (R80, R106, R113) -/

/-- The case UNSYNCED is that of a table with no H; no other case is. -/
theorem Table.rangeCase_unsynced {t : Table} (jump rewind s e : Nat) :
    t.rangeCase jump rewind s e = .unsynced ↔ t.high = none := by
  unfold Table.rangeCase
  cases t.high with
  | none => simp
  | some h =>
    refine iff_of_false ?_ nofun
    dsimp only
    repeat' split
    all_goals nofun

theorem Table.judgeSeen_good {t : Table} (ht : t.Good) (s : Nat) (w : Winner) : (t.judgeSeen s w).table.Good := by
  unfold Table.judgeSeen
  repeat' split
  · exact ht
  · exact ht
  · exact Table.rename_good ht s (k := .localClaim) nofun w

theorem Table.judge_good {t : Table} (ht : t.Good) (cfg : FeedCfg) (s n : Nat) (w : Winner) (now : Nat) :
    (t.judge cfg s n w now).table.Good := by
  unfold Table.judge
  dsimp only
  split
  · exact Table.keepalive_good ht _ _ _ _
  next hn =>
    have hle : s ≤ s + n - 1 := by omega
    have henter (hcase : t.rangeCase cfg.jumpLimit cfg.rewind s (s + n - 1) ≠ .unsynced) (c : Claim) (hc : c.first ≤ c.last)
        (hk : c.kind ≠ .lost) : (t.enter c).1.Good := by
      obtain ⟨h, hh⟩ := Option.ne_none_iff_exists'.1 (mt (Table.rangeCase_unsynced ..).2 hcase)
      exact Table.enter_good ht hh hc hk
    split
    case h_1 hcase => exact Table.start_good ht ((Table.rangeCase_unsynced ..).1 hcase) hle nofun
    case h_2 => exact ht
    case h_3 => exact Table.resetTo_good t hle nofun
    case h_8 => exact Table.judgeSeen_good ht s w
    all_goals exact henter (by simp_all) _ hle nofun

theorem Judgement.counted_good {j : Judgement} (h : j.table.Good) : j.counted.Good := h.of_eq rfl rfl rfl

theorem Table.comparePeer_good {t : Table} (ht : t.Good) (s own : Nat) (w : Winner) : (t.comparePeer s own w).table.Good := by
  have hrename := Table.rename_good ht s (k := .peerClaim) nofun w
  unfold Table.comparePeer
  dsimp only
  repeat' split
  · exact ht.of_eq rfl rfl rfl
  · exact ht.of_eq rfl rfl rfl
  · exact ht.of_eq rfl rfl rfl
  · exact hrename.of_eq rfl rfl rfl
  · exact hrename.of_eq rfl rfl rfl

theorem Table.enterPeer_good {r : Table × List LostGap} (h : r.1.Good) : (Table.enterPeer r).table.Good := h.of_eq rfl rfl rfl

theorem Table.judgePeer_good {t : Table} (ht : t.Good) (cfg : FeedCfg) (s : Nat) {n : Nat} (hn : n ≠ 0) (own : Nat) (w : Winner)
    (now : Nat) : (t.judgePeer cfg s n own w now).table.Good := by
  have hle : s ≤ s + n - 1 := by omega
  unfold Table.judgePeer
  extract_lets k u c
  have hu : u.Good := ht.of_eq rfl rfl rfl
  have henter (hcase : u.rangeCase cfg.jumpLimit cfg.rewind s (s + n - 1) ≠ .unsynced) : (u.enter c).1.Good := by
    obtain ⟨h, hh⟩ := Option.ne_none_iff_exists'.1 (mt (Table.rangeCase_unsynced ..).2 hcase)
    exact Table.enter_good hu hh hle nofun
  split
  case h_1 hcase => exact Table.enterPeer_good (Table.start_good hu ((Table.rangeCase_unsynced ..).1 hcase) hle nofun)
  case h_2 => exact hu.of_eq rfl rfl rfl
  case h_3 => exact (Table.resetTo_good u (c := c) hle nofun).of_eq rfl rfl rfl
  case h_8 => exact Table.comparePeer_good hu s own w
  all_goals exact Table.enterPeer_good (henter (by simp_all))

theorem Table.applyYield_good {t : Table} (ht : t.Good) (s q own : Nat) (w : Winner) : (t.applyYield s q own w).Good := by
  unfold Table.applyYield
  split
  · exact (Table.rename_good ht s (by split <;> nofun) w).of_eq rfl rfl rfl
  · exact ht.of_eq rfl rfl rfl

/-! ### The feed map -/

/-- Every slot's table is good. -/
def TablesGood (feeds : List FeedSlot) : Prop := ∀ f ∈ feeds, f.table.Good

theorem State.tablesSound_iff (s : State) : s.TablesSound ↔ TablesGood s.feeds := .rfl

theorem TablesGood.map {feeds : List FeedSlot} (h : TablesGood feeds) {f : FeedSlot → FeedSlot}
    (hf : ∀ x, x.table.Good → (f x).table.Good) : TablesGood (feeds.map f) :=
  List.forall_mem_map.2 fun x hx => hf x (h x hx)

theorem TablesGood.modifyFeed {feeds : List FeedSlot} (h : TablesGood feeds) (n : Nat) {f : FeedSlot → FeedSlot}
    (hf : ∀ x, x.table.Good → (f x).table.Good) : TablesGood (modifyFeed feeds n f) :=
  h.map fun x hx => by
    split
    · exact hf x hx
    · exact hx

theorem TablesGood.set {feeds : List FeedSlot} (h : TablesGood feeds) (i : Nat) {f : FeedSlot} (hf : f.table.Good) :
    TablesGood (feeds.set i f) := fun x hx => (List.mem_or_eq_of_mem_set hx).elim (h x) fun e => e ▸ hf

theorem tablesGood_cleared (feeds : List FeedSlot) : TablesGood (feeds.map FeedSlot.cleared) :=
  List.forall_mem_map.2 fun _ _ => Table.good_empty

/-! ### The commands that reach the feed map -/

theorem classifyHandOff_tablesGood (i : Line) {s : State} (h : TablesGood s.feeds) : TablesGood (classifyHandOff i s).feeds := by
  unfold classifyHandOff
  split
  · exact h
  · unfold State.classified
    dsimp only
    repeat' split
    case h_1 | h_5 => exact h
    all_goals exact h.modifyFeed _ fun _ hx => hx

theorem localArrival_tablesGood (i : Line) {s : State} (h : TablesGood s.feeds) : TablesGood (localArrival i s).feeds := by
  unfold localArrival
  split
  · exact h
  · dsimp only
    split
    next hf => exact h.set _ (Judgement.counted_good (Table.judge_good (h _ (List.mem_of_getElem? hf)) _ _ _ _ _))
    next => exact h

theorem gapExpiry_tablesGood (i : Fin 32) {s : State} (h : TablesGood s.feeds) : TablesGood (gapExpiry i s).feeds := by
  unfold gapExpiry
  split
  · exact h
  next f hf =>
    split
    · exact h
    · dsimp only
      split
      · exact h.set _ (Table.expire_good (h f (List.mem_of_getElem? hf)) _)
      · exact h

/-- A claim that is not refused has a count (R104). -/
theorem claimCount_ne_zero {r : List Byte} {q : Nat} (hkind : recordKind r = 1) (hclaim : isClaimCode (recordCode r) = true)
    (h : refusedRecord r q = false) : natAt r 16 2 ≠ 0 := by
  simp only [refusedRecord, expectedLength, hkind, badArrival, hclaim, Bool.or_eq_false_iff, Bool.true_and,
    decide_eq_false_iff_not] at h
  exact h.2.2.1

theorem State.recordAtTable_tablesGood {s : State} (h : TablesGood s.feeds) {r : List Byte} {q : Nat}
    (hr : refusedRecord r q = false) {f : FeedSlot} (hf : f.table.Good) : TablesGood (s.recordAtTable r q f).feeds := by
  unfold State.recordAtTable
  extract_lets put w j
  have hput {t : Table} (ht : t.Good) : TablesGood (put t) := h.modifyFeed _ fun _ _ => ht
  split
  next hkind =>
    split
    next hclaim => exact hput (Table.judgePeer_good hf _ _ (claimCount_ne_zero hkind hclaim hr) _ _ _)
    next => exact hput (hf.of_eq rfl rfl rfl)
  next =>
    split
    · exact hput (Table.applyYield_good hf _ _ _ _)
    · exact hput (hf.of_eq rfl rfl rfl)

/-- A record that reaches a table is not refused, and the table is of the feed map. -/
theorem State.recordFate_atTable {s : State} {r : List Byte} {q : Nat} {f : FeedSlot} (h : s.recordFate r q = .atTable f) :
    refusedRecord r q = false ∧ f ∈ s.feeds := by
  unfold State.recordFate at h
  split at h
  · cases h
  · split at h
    · cases h
    next hr =>
      split at h
      next hf =>
        cases h
        obtain ⟨n, -, hn⟩ := Option.bind_eq_some_iff.1 hf
        exact ⟨by simpa using hr, List.mem_of_find?_eq_some hn⟩
      next => cases h

theorem State.takeRecord_tablesGood {s : State} (h : TablesGood s.feeds) (r : List Byte) (q : Nat) :
    TablesGood (s.takeRecord r q).feeds := by
  unfold State.takeRecord
  split
  case h_4 f hfate =>
    obtain ⟨hr, hf⟩ := State.recordFate_atTable hfate
    exact State.recordAtTable_tablesGood h hr (h f hf)
  all_goals exact h

theorem peerRecord_tablesGood {s : State} (h : TablesGood s.feeds) : TablesGood (peerRecord s).feeds := by
  unfold peerRecord
  split
  · exact h
  · split
    · exact h
    · split
      · exact h
      · refine State.takeRecord_tablesGood ?_ _ _
        exact h

theorem State.publish_tablesGood {s : State} (h : TablesGood s.feeds) (r : Record) : TablesGood (s.publish r).feeds := by
  unfold State.publish
  split
  · exact h
  · split
    · split
      · rw [State.shedRecord_feeds]
        unfold shedInto
        split
        · exact h.modifyFeed _ fun _ hx => hx
        · exact h
      · simpa using h
    · simpa using h

theorem recordTaken_tablesGood (m : Maker) {s : State} (h : TablesGood s.feeds) : TablesGood (recordTaken m s).feeds := by
  unfold recordTaken
  split
  · exact h
  · refine State.publish_tablesGood ?_ _
    exact h

theorem State.checkNormal_tablesGood {s : State} (h : TablesGood s.feeds) : TablesGood s.checkNormal.feeds := by
  unfold State.checkNormal
  split
  · exact h.map fun _ hx => hx
  · exact h

theorem recordEntersFrame_tablesGood {s : State} (h : TablesGood s.feeds) : TablesGood (recordEntersFrame s).feeds := by
  unfold recordEntersFrame
  split
  · exact h
  · split
    · rw [State.checkFull_feeds]
      refine State.checkNormal_tablesGood ?_
      exact h
    · exact h

theorem State.clearCounts_tablesGood {s : State} (h : TablesGood s.feeds) (b : Block) : TablesGood (s.clearCounts b).feeds := by
  cases b with
  | classifier => exact h.map fun _ hx => hx
  | arbiter => exact h.map fun _ hx => hx.of_eq rfl rfl rfl
  | _ => exact h

theorem imageReadDone_tablesGood (flash : List Byte) {s : State} (h : TablesGood s.feeds) :
    TablesGood (imageReadDone flash s).feeds := by
  unfold imageReadDone
  split
  · split
    · exact h
    · exact List.forall_mem_map.2 fun _ _ => Table.good_empty
  · exact h

/-- Every command keeps every table sound. -/
theorem effect_keeps_tables (c : Instr) (s : State) (h : s.TablesSound) : (effect c s).TablesSound := by
  have of_eq {t : State} (e : t.feeds = s.feeds) : t.TablesSound := by rwa [State.tablesSound_iff, e]
  by_cases hc : (touched c).feeds = false
  · exact of_eq ((effect_sameBut c s).feeds hc)
  cases c
  case powerOn straps => exact fun f hf => absurd hf List.not_mem_nil
  case classifyHandOff i => exact classifyHandOff_tablesGood i h
  case localArrival i => exact localArrival_tablesGood i h
  case gapExpiry i => exact gapExpiry_tablesGood i h
  case peerRecord => exact peerRecord_tablesGood h
  case beaconTaken =>
    show (beaconTaken s).TablesSound
    rcases beaconTaken_cases s with e | e
    · exact of_eq (e.feeds rfl)
    · rw [State.tablesSound_iff, e, State.enterConflict_feeds]
      exact tablesGood_cleared _
  case recordTaken m => exact recordTaken_tablesGood m h
  case recordEntersFrame => exact recordEntersFrame_tablesGood h
  case dispatch straps =>
    show (dispatch straps s).TablesSound
    rcases dispatch_cases straps s with e | ⟨-, port, req, e⟩
    · exact of_eq (e.feeds rfl)
    · rw [State.tablesSound_iff, e, State.restart_feeds]
      exact fun f hf => absurd hf List.not_mem_nil
  case clearCounts part =>
    show (clearCountsRequest part s).TablesSound
    rcases clearCountsRequest_cases part s with ⟨b, e⟩ | e
    · rw [e]; exact State.clearCounts_tablesGood h b
    · exact of_eq (e.feeds rfl)
  case imageReadDone flash => exact imageReadDone_tablesGood flash h
  all_goals exact absurd rfl hc

/-- Settles O57: every command keeps every table sound, and none looks at the commands that wait. -/
theorem tablesStaySound : Obligations.TablesStaySound := fun _ _ h hstep =>
  step_keeps (P := State.TablesSound) (fun _ _ h => h) effect_keeps_tables hstep h

end Sys2Proof.Machine
end

section
/-! ## A local arrival judged, and the cases of a judgement that enter no range (R79 to R84, R89 to R92, R94, R97 to R99) -/

namespace Sys2Proof.Machine

set_option Elab.async false

/-! ### The oldest arrival of a line is taken (R74, R97, R98) -/

/-- The counter of a verdict's name rises, and no other (R99). -/
theorem LocalCounts.count_eq (k : LocalCounts) (v : Verdict) (raised : Verdict → Nat → Nat)
    (hraised : ∀ u n, raised u n = if v = u then bump n else n) : k.count v = { k with
      first := raised .first k.first, fill := raised .fill k.fill, partialFill := raised .partialFill k.partialFill,
      late := raised .late k.late, reset := raised .reset k.reset, takeover := raised .takeover k.takeover,
      duplicate := raised .duplicate k.duplicate, keepalive := raised .keepalive k.keepalive, stale := raised .stale k.stale,
      wild := raised .wild k.wild } := by
  simp only [hraised]
  cases v <;> rfl

theorem localArrival_taken {i : Line} {s : State} {a : Arrival} {f : FeedSlot}
    (ha : s.arrivals.find? (fun x => decide (x.line = i)) = some a) (hf : s.feeds[a.index]? = some f) :
    localArrival i s =
      ({ s with arrivals := s.arrivals.eraseP (fun x => decide (x.line = i)) } : State).takeArrival a f := by
  simp only [localArrival, ha, hf]

/-- Settles O12: the judgement's table with its verdict counted, then the records in their order. -/
theorem localArrivalIsJudged : Obligations.LocalArrivalIsJudged := by
  intro i s a f ha hf j losses k raised counted
  have hcount : j.table.counts.count j.verdict = counted := LocalCounts.count_eq _ _ raised fun _ _ => rfl
  rw [exec_eq_effect, effect, localArrival_taken ha hf, ← hcount, List.append_assoc]
  rfl

/-! ### The earliest deadline reached (R95) -/

/-- The earlier of a deadline and a gap's. -/
def earlier (m : Option Nat) (g : Gap) : Option Nat :=
  match m with
  | none => some g.deadline
  | some d => some (min d g.deadline)

theorem earliestDeadline_eq (gaps : List Gap) : earliestDeadline gaps = gaps.foldl earlier none := rfl

theorem foldl_earlier {d : Nat} (gaps : List Gap) (m : Option Nat) (hm : ∀ a, m = some a → d ≤ a)
    (hgaps : ∀ g ∈ gaps, d ≤ g.deadline) (hd : m = some d ∨ ∃ g ∈ gaps, g.deadline = d) : gaps.foldl earlier m = some d := by
  induction gaps generalizing m with
  | nil => simpa using hd
  | cons g gs ih =>
    obtain ⟨hg, hgs⟩ := List.forall_mem_cons.1 hgaps
    cases m with
    | none =>
      refine ih (some g.deadline) (by simpa using hg) hgs ?_
      simpa using hd
    | some a =>
      have ha := hm a rfl
      refine ih (some (min a g.deadline)) (by simpa using ⟨ha, hg⟩) hgs ?_
      simp only [Option.some.injEq, List.exists_mem_cons_iff] at hd ⊢
      rcases hd with rfl | rfl | hd
      · exact .inl (min_eq_left hg)
      · exact .inl (min_eq_right ha)
      · exact .inr hd

theorem earliestDeadline_of_least {gaps : List Gap} {d : Nat} (hmem : ∃ g ∈ gaps, g.deadline = d)
    (hle : ∀ g ∈ gaps, d ≤ g.deadline) : earliestDeadline gaps = some d :=
  (earliestDeadline_eq gaps).trans (foldl_earlier gaps none nofun hle (.inr hmem))

section Expiry

variable {i : Fin 32} {s : State} {f : FeedSlot} {d : Nat}

theorem gapExpiry_early (hf : s.feeds[i.val]? = some f) (hd : earliestDeadline f.table.gaps = some d) (h : s.clock.tick < d) :
    gapExpiry i s = s := by simp only [gapExpiry, hf, hd, if_neg (Nat.not_le.2 h)]

theorem gapExpiry_due (hf : s.feeds[i.val]? = some f) (hd : earliestDeadline f.table.gaps = some d) (h : d ≤ s.clock.tick) :
    gapExpiry i s = ((s.setSlot i.val { f with table := f.table.expire d }).handArbiter
      ((f.table.expiring d).map (fun g => Record.lost f.cfg.feed g.first (g.last + 1 - g.first) .expired s.clock.reading))).raise
        .gapLost := by
  simp only [gapExpiry, hf, hd, if_pos h, lostRecords, List.map_map, Function.comp_def]

end Expiry

/-- Settles O15: the least deadline is the earliest one; the gaps that fall on it become LOST entries and records in order. -/
theorem gapExpiryLoses : Obligations.GapExpiryLoses := by
  intro i s f d hf hmem hle out entries lost
  have hd := earliestDeadline_of_least hmem hle
  refine ⟨fun h => congrArg _ (gapExpiry_early hf hd h), fun h => ?_⟩
  have hout : f.table.expiring d ≠ [] := by
    obtain ⟨g, hg, hgd⟩ := hmem
    exact List.ne_nil_of_mem (List.mem_filter.2 ⟨hg, decide_eq_true hgd⟩)
  have htable : f.table.expire d = { f.table with
      gaps := f.table.gaps.filter (fun g => decide (g.deadline ≠ d)),
      log := (f.table.log ++ entries).drop (f.table.log.length + entries.length - 64),
      counts := { f.table.counts with expired := bumpBy out.length f.table.counts.expired } } := by
    have hlog : (f.table.expire d).log = (f.table.log ++ entries).drop (f.table.log.length + entries.length - 64) :=
      Table.expire_log (.inr hout)
    rw [← hlog]
    rfl
  rw [exec_eq_effect, effect, gapExpiry_due hf hd h, htable]
  rfl

/-! ### The order of claims (R79) -/

theorem Winner.notAfter_iff (v w : Winner) : v.notAfter w = true ↔
    v.date.before w.date = true ∨
      (v.date = w.date ∧ (v.station < w.station ∨ (v.station = w.station ∧ v.line ≤ w.line))) := by
  simp [Winner.notAfter]

/-! ### The judgement by its case (R80) -/

namespace Table

/-- The claim that a local arrival makes. -/
def localClaim (cfg : FeedCfg) (n c : Nat) (w : Winner) (now : Nat) : Claim :=
  { first := n, last := n + c - 1, winner := w, kind := .localClaim, now := now, hold := cfg.gapHoldUs * 250 }

variable {t : Table} {cfg : FeedCfg} {n c : Nat} {w : Winner} {now h : Nat}

theorem judge_keepalive (hc : c = 0) : t.judge cfg n c w now =
    { verdict := .keepalive, table := (t.keepalive n now (cfg.gapHoldUs * 250) cfg.jumpLimit).1,
      losses := (t.keepalive n now (cfg.gapHoldUs * 250) cfg.jumpLimit).2 } := if_pos hc

/-- What a range comes to in each case of R80. -/
def judgedAs (t : Table) (k : Claim) : RangeCase → Judgement
  | .unsynced => { verdict := .first, table := t.start k }
  | .wild => { verdict := .wild, table := t }
  | .reset => { verdict := .reset, table := (t.resetTo k).1, losses := (t.resetTo k).2 }
  | .late => { verdict := .late, table := (t.enter k).1, losses := (t.enter k).2 }
  | .first => { verdict := .first, table := (t.enter k).1, losses := (t.enter k).2 }
  | .fill => { verdict := .fill, table := (t.enter k).1, losses := (t.enter k).2 }
  | .partialFill => { verdict := .partialFill, table := (t.enter k).1, losses := (t.enter k).2 }
  | .allSeen => t.judgeSeen k.first k.winner

theorem judge_range (hc : 1 ≤ c) {k : RangeCase} (hk : t.rangeCase cfg.jumpLimit cfg.rewind n (n + c - 1) = k) :
    t.judge cfg n c w now = t.judgedAs (localClaim cfg n c w now) k := by
  rw [judge, if_neg (Nat.ne_of_gt hc), hk]
  cases k <;> rfl

/-! The cases 2 to 8 of R80 in their order. -/

section Case

variable {jump rewind s e : Nat} (hh : t.high = some h)

include hh

theorem rangeCase_wild (hs : h + jump < s) : t.rangeCase jump rewind s e = .wild := by
  simp only [rangeCase, hh, if_pos hs]

theorem rangeCase_reset (hs : s ≤ h + jump) (hr : s + rewind < h) : t.rangeCase jump rewind s e = .reset := by
  simp only [rangeCase, hh, if_neg (Nat.not_lt.2 hs), if_pos hr]

variable (hs : s ≤ h + jump) (hr : h ≤ s + rewind)

include hs hr

theorem rangeCase_late (hlost : t.isLost s = true) : t.rangeCase jump rewind s e = .late := by
  simp only [rangeCase, hh, if_neg (Nat.not_lt.2 hs), if_neg (Nat.not_lt.2 hr), hlost, if_true]

theorem rangeCase_unseen (hlost : t.isLost s = false) (hseen : t.seenParts s e = []) :
    t.rangeCase jump rewind s e = if h ≤ s then .first else .fill := by
  simp only [rangeCase, hh, if_neg (Nat.not_lt.2 hs), if_neg (Nat.not_lt.2 hr), hlost, hseen, if_true, Bool.false_eq_true,
    if_false]

theorem rangeCase_seen (hlost : t.isLost s = false) (hseen : t.seenParts s e ≠ []) :
    t.rangeCase jump rewind s e = if t.unseenRuns s e = [] ∧ t.lostRuns s e = [] then .allSeen else .partialFill := by
  simp only [rangeCase, hh, if_neg (Nat.not_lt.2 hs), if_neg (Nat.not_lt.2 hr), hlost, if_neg hseen, Bool.false_eq_true,
    if_false]

end Case

/-! ### A keepalive (R81, R94) -/

theorem keepalive_unsynced (hh : t.high = none) (s now hold jump : Nat) :
    t.keepalive s now hold jump = ({ t with high := some s }, []) := by simp only [keepalive, hh]

theorem keepalive_outside (hh : t.high = some h) {s jump : Nat} (hs : ¬ (h < s ∧ s ≤ h + jump)) (now hold : Nat) :
    t.keepalive s now hold jump = (t, []) := by simp only [keepalive, hh, if_neg hs]

/-- A keepalive above H opens a gap; a ninth evicts the lowest. -/
theorem keepalive_above (hh : t.high = some h) {s jump : Nat} (hs : h < s ∧ s ≤ h + jump) (now hold : Nat) :
    t.keepalive s now hold jump =
      let g := evictGap (t.gaps ++ [{ first := h, last := s - 1, opened := now, deadline := now + hold }])
      ({ t with high := some s, gaps := g.1, log := logInsertAll t.log (evictedEntry g.2), counts := t.counts.countEvicted g.2 },
        evictedLoss g.2) := by simp only [keepalive, hh, if_pos hs, openGap_of_above hs.1]

/-! ### What a judgement carries (R97) -/

theorem judgeSeen_carries (t : Table) (s : Nat) (w : Winner) :
    ((t.judgeSeen s w).verdict ≠ .duplicate → (t.judgeSeen s w).lead = none) ∧
      ((t.judgeSeen s w).verdict ≠ .takeover → (t.judgeSeen s w).displaced = none) := by
  unfold judgeSeen
  repeat' split
  · exact ⟨fun _ => rfl, fun _ => rfl⟩
  · exact ⟨fun h => absurd rfl h, fun _ => rfl⟩
  · exact ⟨fun _ => rfl, fun h => absurd rfl h⟩

theorem judgedAs_carries (t : Table) (c : Claim) (k : RangeCase) :
    ((t.judgedAs c k).verdict ≠ .duplicate → (t.judgedAs c k).lead = none) ∧
      ((t.judgedAs c k).verdict ≠ .takeover → (t.judgedAs c k).displaced = none) := by
  cases k with
  | allSeen => exact t.judgeSeen_carries _ _
  | _ => exact ⟨fun _ => rfl, fun _ => rfl⟩

theorem judge_carries (t : Table) (cfg : FeedCfg) (n c : Nat) (w : Winner) (now : Nat) :
    ((t.judge cfg n c w now).verdict ≠ .duplicate → (t.judge cfg n c w now).lead = none) ∧
      ((t.judge cfg n c w now).verdict ≠ .takeover → (t.judge cfg n c w now).displaced = none) := by
  by_cases hc : c = 0
  · rw [judge_keepalive hc]
    exact ⟨fun _ => rfl, fun _ => rfl⟩
  · rw [judge_range (Nat.pos_of_ne_zero hc) rfl]
    exact t.judgedAs_carries _ _

/-! ### A range whose sequences are all seen (R89 to R91) -/

theorem judgeSeen_stale {s : Nat} (he : t.entryAt s = none) : t.judgeSeen s w = { verdict := .stale, table := t } := by
  simp only [judgeSeen, he, Option.bind_none]

theorem judgeSeen_of_entry {s : Nat} {x : LogEntry} {v : Winner} (he : t.entryAt s = some x) (hv : x.winner = some v) :
    t.judgeSeen s w = if v.notAfter w then { verdict := .duplicate, table := t, lead := some (leadOver w.date v) }
      else { verdict := .takeover, table := t.rename s .localClaim w, displaced := some v } := by
  simp only [judgeSeen, he, Option.bind_some, hv]

end Table

/-- Settles O13: by the case of R80, and for a keepalive by whether it opens a gap and whether the gap is the ninth. -/
theorem judgementCases : Obligations.JudgementCases := by
  refine ⟨Winner.notAfter_iff, ?_⟩
  intro t cfg n c w now e j opened
  obtain ⟨hlead, hdisplaced⟩ := t.judge_carries cfg n c w now
  have hkeep (hc : c = 0) : j = _ := Table.judge_keepalive hc
  have hcase {k : RangeCase} (hc : 1 ≤ c) (hk : t.rangeCase cfg.jumpLimit cfg.rewind n e = k) : j = _ := Table.judge_range hc hk
  refine ⟨hlead, hdisplaced, ?_, ?_, ?_, ?_, ?_, ?_, ?_, ?_⟩
  · intro hh hc
    rw [hkeep hc, Table.keepalive_unsynced hh]
    exact ⟨rfl, rfl, rfl⟩
  · intro h hh hc hn
    rw [hkeep hc, Table.keepalive_outside hh hn]
    exact ⟨rfl, rfl, rfl⟩
  · intro h hh hc hn hn' hlen
    have hevict : evictGap (t.gaps ++ [opened h]) = (t.gaps ++ [opened h], none) := by
      rcases evictGap_cases (t.gaps ++ [opened h]) with ⟨-, e⟩ | ⟨g, rest, e, hrest, -⟩
      · exact e
      · have := congrArg List.length e
        simp at this
        omega
    rw [hkeep hc, Table.keepalive_above hh ⟨hn, hn'⟩, hevict]
    exact ⟨rfl, rfl, rfl⟩
  · intro h g rest hh hc hn hn' hgaps hrest
    have hevict : evictGap (t.gaps ++ [opened h]) = (rest ++ [opened h], some g) := by
      rw [hgaps, List.cons_append]
      rcases evictGap_cases (g :: (rest ++ [opened h])) with ⟨hlen, -⟩ | ⟨g', rest', e, -, e'⟩
      · simp at hlen
        omega
      · cases e
        exact e'
    rw [hkeep hc, Table.keepalive_above hh ⟨hn, hn'⟩, hevict]
    exact ⟨rfl, rfl, rfl⟩
  · intro hh hc hlog
    rw [hcase hc ((Table.rangeCase_unsynced ..).2 hh)]
    refine ⟨rfl, rfl, ?_⟩
    simp only [Table.judgedAs, Table.start, hlog]
    rfl
  · intro h hh hc hn
    rw [hcase hc (Table.rangeCase_wild hh hn)]
    exact ⟨rfl, rfl, rfl⟩
  · intro h hh hc hn hr
    rw [hcase hc (Table.rangeCase_reset hh hn hr)]
    exact ⟨rfl, rfl, rfl⟩
  · intro h hh hc hn hr hlost hseen hunseen hruns
    have hall : t.rangeCase cfg.jumpLimit cfg.rewind n e = .allSeen := by
      rw [Table.rangeCase_seen hh hn hr hlost hseen, if_pos ⟨hunseen, hruns⟩]
    have hj : j = t.judgeSeen n w := hcase hc hall
    rw [hj]
    refine ⟨fun hno => ?_, fun pre x post v hlog hpre hfirst hlast hv => ?_⟩
    · rw [Table.judgeSeen_stale (Table.entryAt_eq_none.2 hno)]
      exact ⟨rfl, rfl, rfl⟩
    · have hentry : t.entryAt n = some x := Table.entryAt_eq_some.2 ⟨⟨hfirst, hlast⟩, pre, post, hlog, hpre⟩
      rw [Table.judgeSeen_of_entry hentry hv, Table.rename_of_entry hlog hpre ⟨hfirst, hlast⟩]
      refine ⟨fun hle => ?_, fun hle => ?_⟩
      · rw [if_pos hle]
        exact ⟨rfl, rfl, rfl, rfl⟩
      · rw [if_neg (Bool.eq_false_iff.1 hle)]
        exact ⟨rfl, rfl, rfl, rfl⟩

end Sys2Proof.Machine
end

section
/-! ## The classes of a range, and the table after it is entered (R76 to R78, R80, R85 to R88, R92 to R94) -/

namespace Sys2Proof.Machine

set_option Elab.async false

namespace Table

/-! ### The classes of a range (R78) -/

section Classes

variable {t : Table} {h a b : Nat}

theorem seenParts_eq_nil (hab : a ≤ b) :
    t.seenParts a b = [] ↔ ∀ n, a ≤ n → n ≤ b → t.h ≤ n ∨ Gapped t.gaps n ∨ t.isLost n = true := by
  rw [(t.seenParts_whole hab).eq_nil_iff]
  refine forall_congr' fun n => ?_
  rw [covers_seenParts, ← not_le (a := t.h)]
  tauto

theorem unseenRuns_eq_nil (hab : a ≤ b) : t.unseenRuns a b = [] ↔ ∀ n, a ≤ n → n ≤ b → n < t.h ∧ ¬ Gapped t.gaps n := by
  rw [(t.unseenRuns_whole hab).eq_nil_iff]
  refine forall_congr' fun n => ?_
  rw [covers_unseenRuns, ← not_le (a := t.h)]
  tauto

theorem lostRuns_eq_nil : t.lostRuns a b = [] ↔ ∀ n, a ≤ n → n ≤ b → t.isLost n = false := by
  rw [(t.lostRuns_whole a b).eq_nil_iff]
  refine forall_congr' fun n => ?_
  rw [covers_lostRuns, ← Bool.not_eq_true]
  tauto

/-- The range at or above H is one unseen run, and no sequence of it is lost (R78). -/
theorem unseenRuns_above (hgaps : gapsSound t.gaps t.h) (hab : a ≤ b) (ha : t.h ≤ a) : t.unseenRuns a b = [(a, b)] := by
  have hnone : t.gaps.filterMap (fun g => overlap a b g.first g.last) = [] := by
    refine List.filterMap_eq_nil_iff.2 fun g hg => if_neg ?_
    have := (hgaps.2 g hg).2
    omega
  have hpieces : t.unseenPieces a b = [(a, b)] := by
    rw [unseenPieces, if_pos (ha.trans hab), max_eq_left ha]
    exact congrArg (· ++ [(a, b)]) hnone
  rw [unseenRuns_eq, hpieces]
  rfl

end Classes

/-! ### The parts of the table after (R85, R92, R93) -/

section Entered

variable {t : Table} {c : Claim} {h : Nat}

/-- The gap list cut by the range claimed, gap by gap. -/
theorem fillGaps_eq {gaps : List Gap} {s e : Nat} (hse : s ≤ e) (hgaps : ∀ g ∈ gaps, g.first ≤ g.last) :
    fillGaps gaps s e = gaps.flatMap (fun g =>
      if g.last < s ∨ e < g.first then [g]
      else (if g.first < s then [{ g with last := s - 1 }] else []) ++
        (if e < g.last then [{ g with first := e + 1 }] else [])) := by
  refine List.flatMap_congr fun g hg => ?_
  split
  next hapart => rw [cutOut_of_apart hse (hgaps g hg) hapart]; rfl
  next hapart =>
    rw [cutOut_of_overlap hapart]
    by_cases hlow : g.first < s <;> by_cases hhigh : e < g.last <;> simp [hlow, hhigh]

/-- What entering makes of the gap list and the losses: nothing evicted, or the lowest of nine. -/
theorem enter_gaps_cases (t : Table) (c : Claim) :
    ((t.cutGaps c).length ≤ 8 ∧ (t.enter c).1.gaps = t.cutGaps c ∧ (t.enter c).2 = [] ∧ (t.enter c).1.counts = t.counts) ∨
      ∃ g rest, t.cutGaps c = g :: rest ∧ 8 ≤ rest.length ∧ (t.enter c).1.gaps = rest ∧
        (t.enter c).2 = [{ first := g.first, last := g.last, cause := .evicted }] ∧
        (t.enter c).1.counts = { t.counts with evicted := bump t.counts.evicted } := by
  rw [enter_gaps, enter_losses, enter_counts]
  rcases evictGap_cases (t.cutGaps c) with ⟨hlen, e⟩ | ⟨g, rest, hcut, hlen, e⟩ <;> rw [e]
  · exact .inl ⟨hlen, rfl, rfl, rfl⟩
  · exact .inr ⟨g, rest, hcut, hlen, rfl, rfl, rfl⟩

/-- Every gap after stands clear of the range. -/
theorem cutGaps_outside (hc : c.first ≤ c.last) (hgaps : gapsSound t.gaps t.h) :
    ∀ g ∈ t.cutGaps c, g.first ≤ g.last ∧ (g.last < c.first ∨ c.last < g.first) := by
  intro g hg
  have hsound := (cutGaps_sound hc hgaps).2 g hg
  refine ⟨hsound.1, ?_⟩
  by_contra hnot
  have hn : Gapped (t.cutGaps c) (max g.first c.first) :=
    (covers_map _ _ _).2 ⟨g, hg, by simp only [Gap.span]; omega⟩
  rw [gapped_cutGaps] at hn
  omega

theorem enter_gaps_sublist (t : Table) (c : Claim) : (t.enter c).1.gaps.Sublist (t.cutGaps c) := by
  rcases t.enter_gaps_cases c with ⟨-, e, -⟩ | ⟨g, rest, hcut, -, e, -⟩ <;> rw [e]
  rw [hcut]
  exact List.sublist_cons_self g rest

/-- A sequence in a gap before the eviction is in a gap after it, or in the gap told of as lost. -/
theorem gapped_or_lost_iff (t : Table) (c : Claim) (n : Nat) :
    Gapped (t.enter c).1.gaps n ∨ (∃ l ∈ (t.enter c).2, l.first ≤ n ∧ n ≤ l.last) ↔ Gapped (t.cutGaps c) n := by
  rcases t.enter_gaps_cases c with ⟨-, e, hloss, -⟩ | ⟨g, rest, hcut, -, e, hloss, -⟩ <;> rw [e, hloss]
  · simp
  · rw [hcut, Gapped, Gapped, List.map_cons, covers_cons, or_comm]
    simp [Gap.span]

/-- The LOST entry of an eviction is that of the loss told. -/
theorem evictedEntry_eq (t : Table) (c : Claim) :
    evictedEntry (evictGap (t.cutGaps c)).2 = (t.enter c).2.map (fun l => lostEntry l.first l.last) := by
  rw [enter_losses]
  cases (evictGap (t.cutGaps c)).2 <;> rfl

theorem losses_within (t : Table) (c : Claim) : ∀ l ∈ (t.enter c).2, ∃ g ∈ t.cutGaps c, l.first = g.first ∧ l.last = g.last := by
  rcases t.enter_gaps_cases c with ⟨-, -, e, -⟩ | ⟨g, rest, hcut, -, -, e, -⟩ <;> rw [e]
  · nofun
  · intro l hl
    obtain rfl := List.mem_singleton.1 hl
    exact ⟨g, hcut ▸ List.mem_cons_self, rfl, rfl⟩

/-- An entry of the log after: left of the old log, of the claim, or of the gap evicted. -/
theorem mem_enter_log (hc : c.first ≤ c.last) (hlog : ∀ x ∈ t.log, x.first ≤ x.last) (hlen : t.log.length ≤ 64) {x : LogEntry}
    (hx : x ∈ (t.enter c).1.log) :
    x ∈ t.keptEntries c ++ t.upperEntries c ∨ x ∈ t.claimEntries c ∨
      ∃ g ∈ t.cutGaps c, x = lostEntry g.first g.last := by
  rw [enter_log hc hlog hlen] at hx
  have hx := enteredLog_perm.symm.subset (List.mem_of_mem_drop hx)
  rw [evictedEntry_eq] at hx
  rcases List.mem_append.1 hx with hx | hx
  · rcases List.mem_append.1 hx with hx | hx
    · exact .inl hx
    · exact .inr (.inl hx)
  · obtain ⟨l, hl, rfl⟩ := List.mem_map.1 hx
    obtain ⟨g, hg, hfirst, hlast⟩ := t.losses_within c l hl
    exact .inr (.inr ⟨g, hg, by rw [hfirst, hlast]⟩)

/-- An entry that is not LOST and that a claim leaves is one of the old log. -/
theorem mem_left_of_not_lost {x : LogEntry} (hx : x ∈ t.keptEntries c ++ t.upperEntries c) (hk : x.kind ≠ .lost) :
    x ∈ t.log := by
  rcases List.mem_append.1 hx with hx | hx <;> obtain ⟨y, hy, hyx⟩ := List.mem_filterMap.1 hx
  · unfold LogEntry.kept at hyx
    split at hyx
    next => cases hyx; exact hy
    next hlost =>
      have hyk : y.kind = .lost := not_not.1 (not_or.1 hlost).1
      split at hyx
      · cases hyx; exact absurd hyk hk
      · split at hyx <;> cases hyx
        exact absurd hyk hk
  · obtain ⟨-, ⟨⟩⟩ := Option.ite_none_right_eq_some.1 hyx
    exact absurd rfl hk

/-- Every LOST entry after stands clear of the range (R85 step 2). -/
theorem enter_log_lost (hc : c.first ≤ c.last) (hk : c.kind ≠ .lost) (hgaps : gapsSound t.gaps t.h) (hlog : logSound t.log t.h)
    (hlen : t.log.length ≤ 64) {x : LogEntry} (hx : x ∈ (t.enter c).1.log) (hlost : x.kind = .lost) :
    x.last < c.first ∨ c.last < x.first := by
  rcases mem_enter_log hc (fun x hx => (hlog x hx).1) hlen hx with hx | hx | ⟨g, hg, rfl⟩
  · obtain ⟨y, -, hkind, -, -, -, -, hout⟩ := mem_left hc hlog hx
    exact hout (hkind ▸ hlost)
  · rcases (mem_claimEntries hc hx).2.1 with e | e
    · exact absurd (e ▸ hlost) hk
    · cases e.symm.trans hlost
  · exact (cutGaps_outside hc hgaps g hg).2

/-- Every other entry after is one of the old log, or the claim's within its range (R85 step 1 and 2). -/
theorem enter_log_claimed (hc : c.first ≤ c.last) (hlog : ∀ x ∈ t.log, x.first ≤ x.last) (hlen : t.log.length ≤ 64)
    {x : LogEntry} (hx : x ∈ (t.enter c).1.log) (hk : x.kind ≠ .lost) :
    x ∈ t.log ∨ (x.winner = some c.winner ∧ c.first ≤ x.first ∧ x.last ≤ c.last ∧ (x.kind = c.kind ∨ x.kind = .lateClaim)) := by
  rcases mem_enter_log hc hlog hlen hx with hx | hx | ⟨g, hg, rfl⟩
  · exact .inl (mem_left_of_not_lost hx hk)
  · obtain ⟨hwinner, hkind, hfirst, -, hlast⟩ := mem_claimEntries hc hx
    exact .inr ⟨hwinner, hfirst, hlast, hkind⟩
  · exact absurd rfl hk

/-- A range at or above H: its one entry is the newest after (R86). -/
theorem enter_log_getLast? (hc : c.first ≤ c.last) (hgaps : gapsSound t.gaps t.h) (hlog : logSound t.log t.h)
    (hlen : t.log.length ≤ 64) (habove : t.h ≤ c.first) :
    (t.enter c).1.log.getLast? = some (claimEntry c.kind c.winner (c.first, c.last)) := by
  have hlost : t.lostRuns c.first c.last = [] := lostRuns_eq_nil.2 fun n hn _ => by
    rw [← Bool.not_eq_true, isLost_iff]
    rintro ⟨x, hx, -, -, hlast⟩
    have := (hlog x hx).2.1
    omega
  have hupper : t.upperEntries c = [] := List.filterMap_eq_nil_iff.2 fun x hx => if_neg fun hcut => by
    have := (hlog x hx).2.1
    omega
  have hnews : t.newEntries c = claimEntry c.kind c.winner (c.first, c.last) :: evictedEntry (evictGap (t.cutGaps c)).2 := by
    rw [newEntries, claimEntries, unseenRuns_above hgaps hc habove, hlost, hupper]
    rfl
  have hsorted : ∃ pre, sortEntries (t.newEntries c) = pre ++ [claimEntry c.kind c.winner (c.first, c.last)] := by
    rw [hnews, evictedEntry_eq]
    rcases t.enter_gaps_cases c with ⟨-, -, e, -⟩ | ⟨g, rest, hcut, -, -, e, -⟩ <;> rw [e]
    · exact ⟨[], rfl⟩
    · have hg : g.first < c.first := by
        have hmem : g ∈ t.cutGaps c := hcut ▸ List.mem_cons_self
        obtain ⟨hle, hout⟩ := cutGaps_outside hc hgaps g hmem
        have hn := (gapped_cutGaps g.first).1 ((covers_map _ _ _).2 ⟨g, hmem, le_rfl, hle⟩)
        rcases hn with ⟨hold, -⟩ | hn
        · obtain ⟨k, hk, hn⟩ := (covers_map _ _ _).1 hold
          have := (hgaps.2 k hk).2
          simp only [Gap.span] at hn
          omega
        · omega
      refine ⟨[lostEntry g.first g.last], ?_⟩
      simp [sortEntries, List.insertionSort, List.orderedInsert, claimEntry, lostEntry, hg]
  obtain ⟨pre, hpre⟩ := hsorted
  rw [enter_log hc (fun x hx => (hlog x hx).1) hlen, hpre, ← List.append_assoc, List.drop_append_of_le_length,
    List.getLast?_concat]
  have : (t.keptEntries c).length ≤ 64 := (List.length_filterMap_le _ _).trans hlen
  simp only [List.length_append, List.length_singleton]
  omega

end Entered

end Table

/-- Settles O14: the classes by the sequences that the runs cover; the verdicts by the case of R80; the table after by its
parts. -/
theorem rangesAreEntered : Obligations.RangesAreEntered := by
  refine ⟨?_, ?_, ?_⟩
  · intro t h a b ht hh hab gapped
    obtain ⟨hgaps, hlog, -⟩ := (Table.sound_iff_of_high hh).1 ht
    rw [← Table.h_of_high hh] at hgaps ⊢
    have hgapped (n : Nat) : Gapped t.gaps n ↔ gapped n := gapped_iff t.gaps n
    refine ⟨?_, ?_, Table.lostRuns_eq_nil, t.isLost_iff, ⟨?_, t.unseenRuns_whole hab, fun n => ?_⟩,
      fun hapart => ⟨t.lostRuns_apart hapart.1 a b, t.lostRuns_whole a b, fun n => ?_⟩⟩
    · simpa only [hgapped] using Table.seenParts_eq_nil (t := t) hab
    · simpa only [hgapped] using Table.unseenRuns_eq_nil (t := t) hab
    · exact t.unseenRuns_apart hgaps hab
    · rw [← and_assoc]
      exact (t.covers_unseenRuns a b n).trans (and_congr_right fun _ => or_congr_right (hgapped n))
    · rw [← and_assoc]
      exact t.covers_lostRuns a b n
  · intro t cfg n c w now hc claim entered h hh hn hr
    have hcase {k : RangeCase} (hk : t.rangeCase cfg.jumpLimit cfg.rewind n (n + c - 1) = k) :
        t.judge cfg n c w now = t.judgedAs claim k := Table.judge_range hc hk
    refine ⟨fun hlost => hcase (Table.rangeCase_late hh hn hr hlost), fun hlost hseen hle => hcase (k := .first) ?_,
      fun hlost hseen hlt => hcase (k := .fill) ?_, fun hlost hseen hruns => hcase (k := .partialFill) ?_⟩
    · rw [Table.rangeCase_unseen hh hn hr hlost hseen, if_pos hle]
    · rw [Table.rangeCase_unseen hh hn hr hlost hseen, if_neg (Nat.not_le.2 hlt)]
    · rw [Table.rangeCase_seen hh hn hr hlost hseen, if_neg (by rwa [not_and_or])]
  · intro t c h ht hh hc hk u losses
    obtain ⟨hgaps, hlog, hgapsLen, hlogLen⟩ := (Table.sound_iff_of_high hh).1 ht
    rw [← Table.h_of_high hh] at hgaps hlog ⊢
    have hwhole : ∀ x ∈ t.log, x.first ≤ x.last := fun x hx => (hlog x hx).1
    have hcutLen : (t.cutGaps c).length ≤ t.gaps.length + 1 := openGap_fillGaps_length hc hgaps c.now c.hold
    have hgapsCases := t.enter_gaps_cases c
    refine ⟨t.enter_high c, fun g hg => ?_, fun n hn => ?_, fun hlt => ?_, ?_, ?_,
      fun x hx => Table.enter_log_lost hc hk hgaps hlog hlogLen hx, fun x hx => Table.enter_log_claimed hc hwhole hlogLen hx,
      Table.enter_log_getLast? hc hgaps hlog hlogLen, ?_⟩
    · exact (Table.cutGaps_outside hc hgaps g ((t.enter_gaps_sublist c).subset hg)).2
    · rw [← gapped_iff, ← gapped_iff, Table.gapped_or_lost_iff, Table.gapped_cutGaps]
      exact or_congr (and_iff_left (by omega)) .rfl
    · rcases hgapsCases with ⟨-, -, e, -⟩ | ⟨g, rest, hcut, hrest, -⟩
      · exact e
      · rw [hcut, List.length_cons] at hcutLen
        omega
    · rcases hgapsCases with ⟨-, -, e, -⟩ | ⟨g, rest, -, -, -, e, -⟩ <;> simp [losses, e]
    · rcases hgapsCases with ⟨-, -, e, -⟩ | ⟨g, rest, -, -, -, e, -⟩ <;> simp [losses, e]
    · intro lost claims kept uppers fresh cut opened
      have hfresh : t.newEntries c = fresh := by rw [Table.newEntries, Table.evictedEntry_eq]; rfl
      have hopened : t.cutGaps c = opened := by
        rw [Table.cutGaps, Table.fillGaps_eq hc fun g hg => (hgaps.2 g hg).1]
        rfl
      rw [hopened] at hgapsCases
      refine ⟨⟨sortEntries fresh, sortEntries_perm fresh, sortEntries_sorted fresh, ?_⟩, fun hlen => ?_,
        fun g rest hcons hlen => ?_, t.enter_peer c⟩
      · rw [← hfresh]
        exact Table.enter_log hc hwhole hlogLen
      · rcases hgapsCases with ⟨-, egaps, eloss, ecounts⟩ | ⟨g, rest, hcons, hrest, -⟩
        · exact ⟨eloss, egaps, ecounts⟩
        · rw [hcons, List.length_cons] at hlen
          omega
      · rcases hgapsCases with ⟨hle, -⟩ | ⟨g', rest', hcons', -, egaps, eloss, ecounts⟩
        · rw [hcons, List.length_cons] at hle
          omega
        · cases hcons.symm.trans hcons'
          exact ⟨eloss, egaps, ecounts⟩

end Sys2Proof.Machine
end

section
/-! ## STATUS, FEED_REPORT and PEER_REPORT, and every item of their reports (R101, R170, R171, R175, R176, R199) -/

namespace Sys2Proof.Machine

set_option Elab.async false

/-! ### Items (section 12.5) -/

theorem item_eq (high low : Nat) (v : List Byte) :
    item high low v = toBE 1 high ++ toBE 1 low ++ toBE 2 v.length ++ v ++ List.replicate ((4 - v.length % 4) % 4) 0 := by
  simp only [item, padTo, zeros, List.append_assoc]

/-- Items whose codes count on are the values' items, each at its place in the list. -/
theorem itemsFrom_eq (high low : Nat) (vs : List (List Byte)) :
    itemsFrom high low vs = (vs.zipIdx.map (fun x => item high (low + x.2) x.1)).flatten := by
  induction vs generalizing low with
  | nil => rfl
  | cons v vs ih =>
    rw [itemsFrom, ih, List.zipIdx_cons', List.map_cons, List.map_map, List.flatten_cons]
    refine congrArg (item high low v ++ ·) (congrArg List.flatten (List.map_congr_left fun x _ => ?_))
    simp only [Function.comp_apply, Prod.map, id, Nat.add_right_comm, ← Nat.add_assoc]

theorem withPlaces_flatMap {α : Type} (xs : List α) (f : Nat × α → List Byte) :
    (withPlaces xs).flatMap f = (xs.zipIdx.map (fun x => f (x.2 + 1, x.1))).flatten := by
  rw [withPlaces, List.flatMap_map, List.flatMap_def]

/-! ### A request at the head is carried out (R170, R171) -/

section Head

variable {s : State} {q : Request} {rest : List Request}

theorem State.carryOut_of_head {code : Nat} (hq : s.req.queue = q :: rest) (hcode : q.code = code)
    (hstate : permitted s.loader.state code = true) (act : Request → State) : s.carryOut code act = act q := by
  simp only [State.carryOut, hq, if_pos hcode, if_pos hstate]

/-- STATUS is permitted in every state. -/
theorem permitted_status (st : StationState) : permitted st 1 = true := by cases st <;> rfl

theorem permitted_report {st : StationState} (h : st = .listen ∨ st = .acquire ∨ st = .serving) {code : Nat}
    (hcode : code = 2 ∨ code = 3) : permitted st code = true := by
  rcases h with rfl | rfl | rfl <;> rcases hcode with rfl | rfl <;> rfl

theorem State.finish_ok_of_room (hq : s.req.queue = q :: rest) (hroom : s.req.responses.length < 4) (data : List Byte) :
    s.finish .ok data = { s with req := { s.req with
      queue := rest, parts := [], responses := s.req.responses ++ [q.answer .ok data] } } := by
  rw [State.finish, ReqHandler.finish_of_room hq hroom]
  rfl

theorem State.finish_badArgument_of_room (hq : s.req.queue = q :: rest) (hroom : s.req.responses.length < 4) :
    s.finish .badArgument [] = { s with req := { s.req with
      queue := rest, parts := [], responses := s.req.responses ++ [q.answer .badArgument []],
      counts := { s.req.counts with badArgument := bump s.req.counts.badArgument } } } := by
  rw [State.finish, ReqHandler.finish_of_room hq hroom]
  rfl

end Head

/-! ### STATUS (R175) -/

theorem ReqHandler.took_iff (r : ReqHandler) (b : Block) : r.took b = true ↔ ∃ p ∈ r.parts, p.block = b := by
  simp [ReqHandler.took]

theorem ReqHandler.took_eq_false_iff (r : ReqHandler) (b : Block) : r.took b = false ↔ ∀ p ∈ r.parts, p.block ≠ b := by
  simp [ReqHandler.took]

theorem statusBlocks_eq : statusBlocks = [.loader, .clock, .agreement, .line 0, .line 1, .line 2, .line 3, .line 4, .line 5,
    .line 6, .line 7, .arbiter, .pool, .publisher, .port, .requests] := by decide

section Status

variable {s : State} {q : Request} {rest : List Request} (hq : s.req.queue = q :: rest) (hcode : q.code = 1)

include hq hcode

theorem status_eq (part : Option Block) : status part s =
    s.byBlocks statusBlocks part (fun b => s.addPart b (s.reportPart b)) (stationReport s.req.parts) :=
  State.carryOut_of_head hq hcode (permitted_status _) _

theorem status_takes {b : Block} (hb : b ∈ statusBlocks) (hnew : ∀ p ∈ s.req.parts, p.block ≠ b) :
    status (some b) s = s.addPart b (s.reportPart b) := by
  rw [status_eq hq hcode]
  exact if_pos ⟨hb, (s.req.took_eq_false_iff b).2 hnew⟩

theorem status_passes {b : Block} (hb : b ∉ statusBlocks ∨ ∃ p ∈ s.req.parts, p.block = b) : status (some b) s = s := by
  rw [status_eq hq hcode]
  refine if_neg fun ⟨hmem, hnew⟩ => hb.elim (absurd hmem) fun htook => ?_
  rw [(s.req.took_iff b).2 htook] at hnew
  cases hnew

theorem status_waits (h : ∃ b ∈ statusBlocks, ∀ p ∈ s.req.parts, p.block ≠ b) : status none s = s := by
  rw [status_eq hq hcode]
  obtain ⟨b, hb, hnew⟩ := h
  refine if_neg fun hall => ?_
  have htook := List.all_eq_true.1 hall b hb
  rw [(s.req.took_eq_false_iff b).2 hnew] at htook
  cases htook

/-- When every part has come back the response is formed of them. -/
theorem status_forms {given : Block → List Byte}
    (h : ∀ b ∈ statusBlocks, s.req.parts.find? (fun p => decide (p.block = b)) = some { block := b, items := given b }) :
    status none s = s.finish .ok (statusBlocks.map given).flatten := by
  have hall : statusBlocks.all s.req.took = true := List.all_eq_true.2 fun b hb =>
    (s.req.took_iff b).2 ⟨_, List.mem_of_find?_eq_some (h b hb), rfl⟩
  have hreport : stationReport s.req.parts = (statusBlocks.map given).flatten := by
    rw [stationReport, List.flatMap_def]
    refine congrArg List.flatten (List.map_congr_left fun b hb => ?_)
    rw [partItems, h b hb]
  rw [status_eq hq hcode, ← hreport]
  exact if_pos hall

end Status

/-- The Page Pool's items, line by line. -/
theorem poolItems_eq (p : Pool) : poolItems p = item 6 1 (counterValue p.free) ++
    ((List.finRange 8).map (fun i => item 6 2 (placed i.val (counterValue (p.held.get i))))).flatten ++
    itemsFrom 6 3
      [counterValue p.low, counterValue p.poolRefusals, counterValue p.quotaRefusals, counterValue p.storeFaults] := by
  rw [poolItems, List.flatMap_def]
  rfl

/-! ### FEED_REPORT and PEER_REPORT (R101, R176) -/

section Report

variable {s : State} {q : Request} {rest : List Request} (hq : s.req.queue = q :: rest)

include hq

theorem feedReport_unmapped (hcode : q.code = 2) (hstate : permitted s.loader.state 2 = true)
    (h : 255 < natAt q.args 0 2 ∨ ∀ g ∈ s.feeds, g.cfg.feed ≠ natAt q.args 0 2) :
    feedReportRequest s = s.finish .badArgument [] := by
  rw [feedReportRequest, State.carryOut_of_head hq hcode hstate]
  split
  · rfl
  next hle =>
    have hnone : findFeed s.feeds (natAt q.args 0 2) = none := by simpa [findFeed] using h.resolve_left hle
    simp only [hnone]

theorem feedReport_mapped (hcode : q.code = 2) (hstate : permitted s.loader.state 2 = true) (hle : natAt q.args 0 2 ≤ 255)
    {pre post : List FeedSlot} {g : FeedSlot} (hfeeds : s.feeds = pre ++ g :: post) (hg : g.cfg.feed = natAt q.args 0 2)
    (hpre : ∀ x ∈ pre, x.cfg.feed ≠ natAt q.args 0 2) : feedReportRequest s = s.finish .ok (feedReport g) := by
  have hfind : findFeed s.feeds (natAt q.args 0 2) = some g := by
    rw [findFeed, List.find?_eq_some_iff_append]
    exact ⟨decide_eq_true hg, pre, post, hfeeds, fun x hx => by simpa using hpre x hx⟩
  rw [feedReportRequest, State.carryOut_of_head hq hcode hstate, if_neg (Nat.not_lt.2 hle)]
  simp only [hfind]

theorem peerReport_answered (hcode : q.code = 3) (hstate : permitted s.loader.state 3 = true) :
    peerReportRequest s = s.finish .ok (peerReport s.agr.peers) := State.carryOut_of_head hq hcode hstate _

end Report

/-- The table state's code follows the table's contents (R75). -/
theorem Table.state_code (t : Table) : t.state.code = if t.high = none then 1 else if t.gaps = [] then 2 else 3 := by
  unfold Table.state
  cases t.high with
  | none => rfl
  | some h => by_cases hg : t.gaps = [] <;> simp [hg, TableState.code]

theorem placed_gapValue (k : Nat) (g : Gap) : placed k (gapValue g) =
    toBE 1 k ++ wideValue g.first ++ wideValue g.last ++ wideValue g.opened ++ wideValue g.deadline := by
  simp only [placed, gapValue, List.append_assoc]

theorem placed_entryValue (k : Nat) (x : LogEntry) : placed k (entryValue x) =
    toBE 1 k ++ wideValue x.first ++ wideValue x.last ++ toBE 1 x.kind.code ++ winnerBytes x.winner := by
  simp only [placed, entryValue, List.append_assoc]

theorem placed_sampleValue (k m : Nat) (x : Sample) : placed k (placed m x.value) =
    toBE 1 k ++ toBE 1 m ++ signed8 x.offset ++ wideValue x.delay.toNat ++ wideValue x.tick := by
  simp only [placed, Sample.value, List.append_assoc]

/-- Settles O44: the codes; then each report's items in the statement's spelling, and the command that answers with them. -/
theorem reportsAnswered : Obligations.ReportsAnswered := by
  refine ⟨by decide, ?_⟩
  intro s q rest hq answer reports refused item' items n4 n8 i8 date flag part order
  have hitem (high low : Nat) (v : List Byte) : item high low v = item' high low v := item_eq high low v
  have hitems (high low : Nat) (vs : List (List Byte)) : itemsFrom high low vs = items high low vs := by
    rw [itemsFrom_eq]
    simp only [hitem]
    rfl
  have horder : statusBlocks = order := statusBlocks_eq
  refine ⟨fun hcode => ⟨fun b hb hnew => ?_, fun b hb => ?_, fun hb => ?_, fun given hgiven hroom => ?_⟩,
    fun hcode hopen hroom => ⟨fun hno => ?_, fun hbig => ?_, ?_⟩, fun hcode hopen hroom => ?_⟩
  · have hpart : s.reportPart b = part b := by
      cases b with
      | pool =>
        rw [State.reportPart, poolItems_eq]
        simp only [hitem, hitems]
        rfl
      | classifier => rfl
      | loader => exact hitems _ _ _
      | clock => exact hitems _ _ _
      | agreement => exact hitems _ _ _
      | line i => exact hitems _ _ _
      | arbiter => exact hitems _ _ _
      | publisher => exact hitems _ _ _
      | port => exact hitems _ _ _
      | requests => exact hitems _ _ _
    rw [exec_eq_effect, effect, status_takes hq hcode (horder ▸ hb) hnew, hpart]
    rfl
  · rw [exec_eq_effect, effect, status_passes hq hcode (horder ▸ hb)]
  · rw [exec_eq_effect, effect, status_waits hq hcode (horder ▸ hb)]
  · rw [exec_eq_effect, effect, status_forms hq hcode (horder ▸ hgiven), State.finish_ok_of_room hq hroom, horder]
    rfl
  · rw [exec_eq_effect, effect, feedReport_unmapped hq hcode (permitted_report hopen (.inl rfl)) (.inr hno),
      State.finish_badArgument_of_room hq hroom]
    rfl
  · rw [exec_eq_effect, effect, feedReport_unmapped hq hcode (permitted_report hopen (.inl rfl)) (.inl hbig),
      State.finish_badArgument_of_room hq hroom]
    rfl
  · intro hle pre g post hfeeds hg hpre t k m state gap entry
    have hgaps : (withPlaces t.gaps).flatMap (fun x => item 1 3 (placed x.1 (gapValue x.2))) =
        (t.gaps.zipIdx.map gap).flatten := by
      rw [withPlaces_flatMap]
      simp only [placed_gapValue, hitem]
      rfl
    have hentries : (withPlaces (t.log.reverse.take 16)).flatMap (fun x => item 1 4 (placed x.1 (entryValue x.2))) =
        ((t.log.reverse.take 16).zipIdx.map entry).flatten := by
      rw [withPlaces_flatMap]
      simp only [placed_entryValue, hitem]
      rfl
    rw [exec_eq_effect, effect, feedReport_mapped hq hcode (permitted_report hopen (.inl rfl)) hle hfeeds hg hpre,
      State.finish_ok_of_room hq hroom, feedReport, hgaps, hentries, Table.state_code, hitem, hitem, hitems]
    rfl
  · intro peer
    have hpeer (p : Peer) (n : Nat) : p.items (n + 1) = peer (p, n) := by
      rw [Peer.items, withPlaces_flatMap]
      simp only [placed_sampleValue, hitem, hitems]
      rfl
    have hreport : peerReport s.agr.peers = (s.agr.peers.zipIdx.map peer).flatten := by
      rw [peerReport, withPlaces_flatMap]
      simp only [hpeer]
    rw [exec_eq_effect, effect, peerReport_answered hq hcode (permitted_report hopen (.inr rfl)),
      State.finish_ok_of_room hq hroom, hreport]
    rfl

end Sys2Proof.Machine
end

section
/-! ## Peer claims and yields at a table (R106 to R111, R113, R114) -/

namespace Sys2Proof.Machine

set_option Elab.async false

namespace Table

/-! ### A peer claim by its case (R106) -/

/-- The claim that a peer's record makes. -/
def peerClaim (cfg : FeedCfg) (n c : Nat) (w : Winner) (now : Nat) : Claim :=
  { first := n, last := n + c - 1, winner := w, kind := .peerClaim, now := now, hold := cfg.gapHoldUs * 250 }

/-- The table with a peer claim counted (R106). -/
def claimed (t : Table) : Table := { t with peer := { t.peer with claims := bump t.peer.claims } }

/-- What a peer claim to station `own` comes to in each case of R106. -/
def peerJudgedAs (t : Table) (own : Nat) (k : Claim) : RangeCase → PeerJudgement
  | .unsynced => enterPeer (t.start k, [])
  | .wild => { table := { t with peer := { t.peer with wild := bump t.peer.wild } } }
  | .reset =>
    { table := { (t.resetTo k).1 with peer := { t.peer with resets := bump t.peer.resets } }, losses := (t.resetTo k).2 }
  | .late => enterPeer (t.enter k)
  | .first => enterPeer (t.enter k)
  | .fill => enterPeer (t.enter k)
  | .partialFill => enterPeer (t.enter k)
  | .allSeen => t.comparePeer k.first own k.winner

variable {t : Table} {cfg : FeedCfg} {n c own : Nat} {w : Winner} {now h : Nat}

/-- The case of a claim is that of the table before the claim is counted. -/
theorem judgePeer_eq {k : RangeCase} (hk : t.rangeCase cfg.jumpLimit cfg.rewind n (n + c - 1) = k) :
    t.judgePeer cfg n c own w now = t.claimed.peerJudgedAs own (peerClaim cfg n c w now) k := by
  have hk' : t.claimed.rangeCase cfg.jumpLimit cfg.rewind n (n + c - 1) = k := hk
  unfold claimed at hk'
  rw [judgePeer, hk']
  cases k <;> rfl

/-- A range enters where its first sequence is lost or not all its sequences are seen (R85 to R88, R108). -/
theorem rangeCase_enters {jump rewind s e : Nat} (hh : t.high = some h) (hs : s ≤ h + jump) (hr : h ≤ s + rewind)
    (hnew : t.isLost s = true ∨ t.seenParts s e = [] ∨ t.unseenRuns s e ≠ [] ∨ t.lostRuns s e ≠ []) :
    t.rangeCase jump rewind s e ∈ [RangeCase.late, .first, .fill, .partialFill] := by
  by_cases hlost : t.isLost s = true
  · rw [rangeCase_late hh hs hr hlost]
    decide
  replace hlost := Bool.eq_false_iff.2 hlost
  by_cases hseen : t.seenParts s e = []
  · rw [rangeCase_unseen hh hs hr hlost hseen]
    split <;> decide
  · have hpart : ¬ (t.unseenRuns s e = [] ∧ t.lostRuns s e = []) := by
      rw [not_and_or]
      exact (hnew.resolve_left (by simp [hlost])).resolve_left hseen
    rw [rangeCase_seen hh hs hr hlost hseen, if_neg hpart]
    decide

theorem peerJudgedAs_entered {k : Claim} {r : RangeCase} (hr : r ∈ [RangeCase.late, .first, .fill, .partialFill]) :
    t.peerJudgedAs own k r = enterPeer (t.enter k) := by
  cases r with
  | late | first | fill | partialFill => rfl
  | unsynced | wild | reset | allSeen => exact absurd hr (by decide)

/-! ### A peer claim whose sequences are all seen (R109 to R111) -/

theorem comparePeer_unrecorded {s : Nat} (he : t.entryAt s = none) :
    t.comparePeer s own w = { table := { t with peer := { t.peer with unrecorded := bump t.peer.unrecorded } } } := by
  simp only [comparePeer, he]

theorem comparePeer_of_entry {s : Nat} {x : LogEntry} {v : Winner} (he : t.entryAt s = some x) (hv : x.winner = some v) :
    t.comparePeer s own w =
      if v.notAfter w then { table := { t with peer := { t.peer with notEarlier := bump t.peer.notEarlier } } }
      else if v.station = own then
        { table := { t.rename s .peerClaim w with peer := { t.peer with yieldsMade := bump t.peer.yieldsMade } },
          yielded := some (x, v) }
      else { table := { t.rename s .peerClaim w with peer := { t.peer with replaced := bump t.peer.replaced } } } := by
  simp only [comparePeer, he, hv]

/-- Such a claim closes no gap, so it loses none. -/
theorem comparePeer_losses (t : Table) (s own : Nat) (w : Winner) : (t.comparePeer s own w).losses = [] := by
  unfold comparePeer
  repeat' split
  all_goals rfl

/-! ### A YIELD (R113, R114) -/

/-- A YIELD is applied where its first sequence is seen and the entry there names the yielding station. -/
theorem yieldApplies_iff {s q : Nat} : t.yieldApplies s q = true ↔
    t.high ≠ none ∧ t.seenParts s s ≠ [] ∧ ∃ x v, t.entryAt s = some x ∧ x.winner = some v ∧ v.station = q := by
  unfold yieldApplies
  cases t.high <;> cases t.entryAt s <;> simp

theorem applyYield_ignored {s q : Nat} (hno : ¬ t.yieldApplies s q = true) :
    t.applyYield s q own w = { t with peer := { t.peer with yieldsIgnored := bump t.peer.yieldsIgnored } } := if_neg hno

theorem applyYield_applied {s q : Nat} (hyes : t.yieldApplies s q = true) :
    t.applyYield s q own w = { t.rename s (if w.station = own then .localClaim else .peerClaim) w with
      peer := { t.peer with yieldsApplied := bump t.peer.yieldsApplied } } := if_pos hyes

end Table

/-- Settles O17: by the case of R106, and where all is seen by the entry at the first sequence; a YIELD by that entry too. -/
theorem peerClaimsAndYields : Obligations.PeerClaimsAndYields := by
  refine ⟨?_, ?_⟩
  · intro t cfg n c own w now _ e j k
    have hcase {r : RangeCase} (hr : t.rangeCase cfg.jumpLimit cfg.rewind n e = r) : j = _ := Table.judgePeer_eq hr
    refine ⟨fun hh hlog => ?_, fun h hh hn => ?_, fun h hh hn hr => ?_, fun h hh hn hr hnew => ?_,
      fun h hh hn hr hlost hseen hunseen hruns => ?_⟩
    · rw [hcase ((Table.rangeCase_unsynced ..).2 hh)]
      refine ⟨rfl, rfl, ?_⟩
      simp only [Table.peerJudgedAs, Table.enterPeer, Table.start, Table.claimed, hlog]
      rfl
    · rw [hcase (Table.rangeCase_wild hh hn)]
      exact ⟨rfl, rfl, rfl⟩
    · rw [hcase (Table.rangeCase_reset hh hn hr)]
      exact ⟨rfl, rfl, rfl⟩
    · rw [hcase rfl, Table.peerJudgedAs_entered (Table.rangeCase_enters hh hn hr hnew)]
      exact ⟨rfl, rfl, rfl⟩
    · have hall : t.rangeCase cfg.jumpLimit cfg.rewind n e = .allSeen := by
        rw [Table.rangeCase_seen hh hn hr hlost hseen, if_pos ⟨hunseen, hruns⟩]
      have hj : j = t.claimed.comparePeer n own w := hcase hall
      rw [hj]
      refine ⟨?_, fun hno => ?_, fun pre x post v hlog hpre hfirst hlast hv => ?_⟩
      · exact Table.comparePeer_losses ..
      · rw [Table.comparePeer_unrecorded (t := t.claimed) (Table.entryAt_eq_none.2 hno)]
        exact ⟨rfl, rfl⟩
      · have hentry : t.claimed.entryAt n = some x := Table.entryAt_eq_some.2 ⟨⟨hfirst, hlast⟩, pre, post, hlog, hpre⟩
        rw [Table.comparePeer_of_entry hentry hv, Table.rename_of_entry (t := t.claimed) hlog hpre ⟨hfirst, hlast⟩]
        refine ⟨fun hle => ?_, fun hlt hown => ?_, fun hlt hother => ?_⟩
        · rw [if_pos hle]
          exact ⟨rfl, rfl⟩
        · rw [if_neg (Bool.eq_false_iff.1 hlt), if_pos hown]
          exact ⟨rfl, rfl⟩
        · rw [if_neg (Bool.eq_false_iff.1 hlt), if_neg hother]
          exact ⟨rfl, rfl⟩
  · intro t n q own w ignored
    refine ⟨fun hno => Table.applyYield_ignored fun hyes => ?_, fun h pre x post v hh hseen hlog hpre hfirst hlast hv => ?_⟩
    · obtain ⟨hhigh, hseen, x, _, hentry, -⟩ := Table.yieldApplies_iff.1 hyes
      rcases hno with hno | hno | hno
      · exact hhigh hno
      · exact hseen hno
      · rw [Table.entryAt_eq_none.2 hno] at hentry
        cases hentry
    · have hentry : t.entryAt n = some x := Table.entryAt_eq_some.2 ⟨⟨hfirst, hlast⟩, pre, post, hlog, hpre⟩
      refine ⟨fun hother => Table.applyYield_ignored fun hyes => ?_, fun hstation => ?_⟩
      · obtain ⟨-, -, x', v', hentry', hv', hstation⟩ := Table.yieldApplies_iff.1 hyes
        obtain rfl : x = x' := Option.some.inj (hentry.symm.trans hentry')
        obtain rfl : v = v' := Option.some.inj (hv.symm.trans hv')
        exact hother hstation
      · rw [Table.applyYield_applied (Table.yieldApplies_iff.2 ⟨hh ▸ nofun, hseen, x, v, hentry, hv, hstation⟩),
          Table.rename_of_entry hlog hpre ⟨hfirst, hlast⟩]

end Sys2Proof.Machine
end

section
/-! ## A publication frame read, checked and handed over (R102, R164 to R166, R197) -/

namespace Sys2Proof.Machine

set_option Elab.async false

/-! ### The walk over a content (R197) -/

/-- The walk stops where no whole header of four bytes is left, or the length field is below 32, not a multiple of 8, or past
the end. -/
def StopsWalk (bs : List Byte) : Prop :=
  bs.length < 4 ∨ natAt bs 2 2 < 32 ∨ natAt bs 2 2 % 8 ≠ 0 ∨ bs.length < natAt bs 2 2

theorem walkRecords_stop {bs : List Byte} (h : StopsWalk bs) (n : Nat) : walkRecords (n + 1) bs = [] := if_pos h

theorem walkRecords_go {bs : List Byte} (h : ¬ StopsWalk bs) (n : Nat) :
    walkRecords (n + 1) bs = bs.take (natAt bs 2 2) :: walkRecords n (bs.drop (natAt bs 2 2)) := if_neg h

/-- What stands where the walk does not stop is a whole record. -/
theorem take_walkable {bs : List Byte} (h : ¬ StopsWalk bs) : Walkable (bs.take (natAt bs 2 2)) := by
  simp only [StopsWalk, not_or, not_not, Nat.not_lt] at h
  obtain ⟨-, h32, h8, hle⟩ := h
  have hlen : (bs.take (natAt bs 2 2)).length = natAt bs 2 2 := List.length_take_of_le hle
  have hfield : natAt (bs.take (natAt bs 2 2)) 2 2 = natAt bs 2 2 := by
    conv_rhs => rw [← List.take_append_drop (natAt bs 2 2) bs]
    rw [natAt_append_of_le _ _ _ _ (by omega)]
  exact ⟨by rw [hfield, hlen], by omega, by omega⟩

/-- The records read stand one after another from the start, each whole, up to where the walk stops or the count is reached. -/
theorem walkRecords_spec (n : Nat) (bs : List Byte) :
    ∃ left, bs = (walkRecords n bs).flatten ++ left ∧ (walkRecords n bs).length ≤ n ∧ (∀ r ∈ walkRecords n bs, Walkable r) ∧
      ((walkRecords n bs).length < n → StopsWalk left) := by
  induction n generalizing bs with
  | zero => exact ⟨bs, rfl, le_rfl, nofun, fun h => absurd h (Nat.not_lt_zero _)⟩
  | succ n ih =>
    by_cases hstop : StopsWalk bs
    · rw [walkRecords_stop hstop]
      exact ⟨bs, rfl, Nat.zero_le _, nofun, fun _ => hstop⟩
    · obtain ⟨left, hbs, hlen, hwalk, hleft⟩ := ih (bs.drop (natAt bs 2 2))
      rw [walkRecords_go hstop]
      refine ⟨left, ?_, Nat.succ_le_succ hlen, List.forall_mem_cons.2 ⟨take_walkable hstop, hwalk⟩,
        fun h => hleft (Nat.lt_of_succ_lt_succ h)⟩
      rw [List.flatten_cons, List.append_assoc, ← hbs, List.take_append_drop]

/-! ### A frame of kind PUBLICATION (R164, R165) -/

/-- A publication frame whose content holds its header is read as one. -/
theorem readFrame_of_publication {bs c : List Byte} (hcontent : frameContent bs = some c) (hkind : frameKind bs = 2)
    (hlen : 16 ≤ c.length) :
    readFrame bs = .publication (frameStation bs) (frameIdentity bs) (natAt c 0 4) (readRecords c) := by
  simp only [readFrame, hcontent, hkind, if_neg (Nat.not_lt.2 hlen)]

/-- The state with the head of the receive queue gone. -/
def State.headGone (s : State) (rest : List RxFrame) : State := { s with port := { s.port with rxQueue := rest } }

theorem dispatch_publication {straps : Fin 16} {s : State} {f : RxFrame} {rest : List RxFrame} {q n : Nat} {id : Identity}
    {recs : List (List Byte)} (hqueue : s.port.rxQueue = f :: rest) (hinbox : s.agr.inbox = none)
    (hframe : s.arbiter.frame = none) (hread : readFrame f.bytes = .publication q id n recs) :
    dispatch straps s = ((s.headGone rest).checkNumber q id n).handFrame q recs := by
  have hready : s.dispatchReady f.bytes = true := by simp [State.dispatchReady, hinbox, hframe]
  simp only [dispatch, hqueue, hready, hread, if_true, State.deliver, State.headGone]

/-- An arbiter that holds no frame holds the one handed over, unless there is nothing in it to take or to count. -/
theorem State.handFrame_eq {s : State} (hframe : s.arbiter.frame = none) (q : Nat) (recs : List (List Byte)) :
    s.handFrame q recs = { s with arbiter := { s.arbiter with
      frame := if recs = [] ∧ q ≠ s.loader.station ∧ q ≤ 15 then none else some { station := q, records := recs } } } := by
  unfold State.handFrame
  split
  · rw [← hframe]
  · rfl

/-! ### The frame number check (R166) -/

theorem Peer.isOf_iff {p : Peer} {q : Nat} {id : Identity} : p.isOf q id = true ↔ p.station = q ∧ p.identity = id := by
  simp [Peer.isOf]

theorem State.checkNumber_untracked {s : State} {q : Nat} {id : Identity}
    (h : ∀ p ∈ s.agr.peers, p.station ≠ q ∨ p.identity ≠ id) (n : Nat) :
    s.checkNumber q id n = s.countPort (fun k => { k with untracked := bump k.untracked }) := by
  have hany : ¬ s.agr.peers.any (fun p => p.isOf q id) = true := by
    simpa [Peer.isOf_iff, ← not_and_or] using h
  exact if_neg hany

/-- Where one entry alone has the number, the check is made in it. -/
theorem State.checkNumber_tracked {s : State} {q : Nat} {id : Identity} {pre post : List Peer} {p : Peer}
    (hpeers : s.agr.peers = pre ++ p :: post) (hp : p.station = q ∧ p.identity = id) (hothers : ∀ x ∈ pre ++ post, x.station ≠ q)
    (n : Nat) : s.checkNumber q id n = { s with agr := { s.agr with peers := pre ++ p.checkNumber n :: post } } := by
  have hself : p.isOf q id = true := Peer.isOf_iff.2 hp
  have hkeep {xs : List Peer} (h : ∀ x ∈ xs, x.station ≠ q) :
      xs.map (fun x => if x.isOf q id then x.checkNumber n else x) = xs :=
    (List.map_congr_left fun x hx => if_neg (mt Peer.isOf_iff.1 fun e => h x hx e.1)).trans xs.map_id
  obtain ⟨hpre, hpost⟩ := List.forall_mem_append.1 hothers
  have hany : s.agr.peers.any (fun x => x.isOf q id) = true := List.any_eq_true.2 ⟨p, by simp [hpeers], hself⟩
  rw [State.checkNumber, if_pos hany, hpeers, List.map_append, List.map_cons, hkeep hpre, hkeep hpost, if_pos hself]

section Entry

variable {p : Peer} {n last : Nat}

theorem Peer.checkNumber_first (h : p.lastPubFrame = none) : p.checkNumber n =
    { p with lastPubFrame := some n, counts := { p.counts with pubFrames := bump p.counts.pubFrames } } := by
  simp only [Peer.checkNumber, h]

/-- The distance decides between frames missed and a number that falls. -/
theorem Peer.checkNumber_next (h : p.lastPubFrame = some last) :
    let k : PeerCounts := { p.counts with pubFrames := bump p.counts.pubFrames }
    let d := forwardDistance last n
    p.checkNumber n = { p with
      lastPubFrame := some n,
      counts := if d = 0 ∨ 2147483648 < d then { k with numberFalls := bump k.numberFalls }
        else { k with missedFrames := bumpBy (d - 1) k.missedFrames } } := by
  simp only [Peer.checkNumber, h]

end Entry

/-- Settles O41: the walk's records and what it leaves; then the check in the one entry, or the count of frames untracked. -/
theorem publicationFramesAreChecked : Obligations.PublicationFramesAreChecked := by
  refine ⟨?_, ?_⟩
  · intro bs t n c hkind hle hn
    have hcontent : frameContent bs = some c := if_neg (Nat.not_lt.2 hle)
    have hlen : c.length = n := slice_length bs (26 + t) n hle
    obtain ⟨left, hbs, hcount, hwalk, hleft⟩ := walkRecords_spec (natAt c 5 1) (c.drop 16)
    exact ⟨_, left, readFrame_of_publication hcontent hkind (by omega), hbs, hcount, hwalk, hleft⟩
  · intro straps s f rest q n id recs hqueue hinbox hframe hread arbiter
    have hexec : exec (.dispatch straps) s = .next (((s.headGone rest).checkNumber q id n).handFrame q recs) :=
      (exec_eq_effect _ _).trans (congrArg _ (dispatch_publication hqueue hinbox hframe hread))
    constructor
    · intro hno
      rw [hexec, State.checkNumber_untracked (s := s.headGone rest) hno,
        State.handFrame_eq (s := (s.headGone rest).countPort _) hframe]
      rfl
    · intro pre p post hpeers hstation hid hothers k after
      have hafter {c : PeerCounts} (hc : p.checkNumber n = { p with lastPubFrame := some n, counts := c }) : after c := by
        simp only [after]
        rw [hexec, State.checkNumber_tracked (s := s.headGone rest) hpeers ⟨hstation, hid⟩ hothers, State.handFrame_eq, hc]
        · rfl
        · exact hframe
      refine ⟨fun hlast => hafter (Peer.checkNumber_first hlast), fun last hlast => ?_⟩
      intro d
      have hd : (forwardDistance last n : Int) = d := forwardDistance_eq last n
      have hnext := Peer.checkNumber_next (n := n) hlast
      refine ⟨fun h1 h2 => hafter ?_, fun h => hafter ?_⟩
      · rw [hnext, if_neg (by omega), show (d - 1).toNat = forwardDistance last n - 1 by omega]
      · rw [hnext, if_pos (by omega)]

end Sys2Proof.Machine
end

section
/-! ## What becomes of the next record of a peer's frame (R102 to R105, R115, R116, R121, R197) -/

namespace Sys2Proof.Machine

set_option Elab.async false

/-! ### The records that are refused (R104) -/

/-- The quarter count of the cage time at `off` is that of no time (R26, R104). -/
def BadDate (r : List Byte) (off : Nat) : Prop := 4000000000 ≤ natAt r (off + 6) 4

/-- A range of no sequence, or one that passes 2^64 - 1 (R104). -/
def BadRange (r : List Byte) : Prop := natAt r 16 2 = 0 ∨ 18446744073709551615 < natAt r 8 8 + natAt r 16 2 - 1

theorem CageTime.valid_iff (d : CageTime) : d.valid = true ↔ d.ns < 1000000000 ∧ d.quarter < 4 := by simp [CageTime.valid]

theorem not_timeAt_valid_iff (r : List Byte) (off : Nat) : (!(timeAt r off).valid) = true ↔ BadDate r off := by
  rw [Bool.not_eq_true', ← Bool.not_eq_true, CageTime.valid_iff]
  simp only [timeAt, BadDate]
  omega

theorem badRange_iff (r : List Byte) : BadRange r ↔ natAt r 16 2 = 0 ∨ recordOverflows r = true := by
  simp only [BadRange, recordOverflows, decide_eq_true_eq]
  omega

theorem isClaimCode_iff (n : Nat) : isClaimCode n = true ↔ 1 ≤ n ∧ n ≤ 6 := by simp [isClaimCode]

/-- Only the range of a claim is tested (log 22). -/
theorem badArrival_iff (r : List Byte) : badArrival r = true ↔
    natAt r 1 1 = 0 ∨ 13 < natAt r 1 1 ∨ 7 < natAt r 6 1 ∨ BadDate r 24 ∨ (natAt r 1 1 ≤ 6 ∧ BadRange r) := by
  rw [← recordCode]
  simp only [badArrival, Bool.or_eq_true, Bool.and_eq_true, decide_eq_true_eq, isClaimCode_iff, not_timeAt_valid_iff, badRange_iff]
  by_cases hcode : recordCode r = 0
  · simp [hcode]
  · simp [hcode, Nat.one_le_iff_ne_zero, or_assoc]

theorem badYield_iff (r : List Byte) (q : Nat) : badYield r q = true ↔
    15 < natAt r 5 1 ∨ natAt r 5 1 = q ∨ 7 < natAt r 6 1 ∨ 7 < natAt r 7 1 ∨ BadDate r 20 ∨ BadDate r 30 ∨ BadRange r := by
  simp only [badYield, Bool.or_eq_true, decide_eq_true_eq, not_timeAt_valid_iff, badRange_iff]
  tauto

/-- The tests of R104 on a record of station `q`, kind by kind. -/
def Refused (r : List Byte) (q : Nat) : Prop :=
  natAt r 0 1 = 0 ∨ 5 < natAt r 0 1 ∨
    (natAt r 0 1 = 1 ∧ (natAt r 2 2 ≠ 64 + (natAt r 22 2 + 7) / 8 * 8 ∨
      natAt r 1 1 = 0 ∨ 13 < natAt r 1 1 ∨ 7 < natAt r 6 1 ∨ BadDate r 24 ∨ (natAt r 1 1 ≤ 6 ∧ BadRange r))) ∨
    (natAt r 0 1 = 2 ∧ (natAt r 2 2 ≠ 48 ∨
      15 < natAt r 5 1 ∨ natAt r 5 1 = q ∨ 7 < natAt r 6 1 ∨ 7 < natAt r 7 1 ∨ BadDate r 20 ∨ BadDate r 30 ∨ BadRange r)) ∨
    (natAt r 0 1 = 3 ∧ (natAt r 2 2 ≠ 32 ∨ BadDate r 20)) ∨
    (natAt r 0 1 = 4 ∧ (natAt r 2 2 ≠ 48 ∨ BadDate r 24 ∨ BadDate r 34)) ∨
    (natAt r 0 1 = 5 ∧ (natAt r 2 2 ≠ 32 ∨ BadDate r 8 ∨ BadDate r 18))

theorem refusedRecord_iff (r : List Byte) (q : Nat) : refusedRecord r q = true ↔ Refused r q := by
  rw [Refused, ← badArrival_iff, ← badYield_iff]
  simp only [← not_timeAt_valid_iff]
  unfold refusedRecord expectedLength recordKind recordLength roundUp8
  match hkind : natAt r 0 1 with
  | 0 => simp
  | 1 => simp
  | 2 => simp
  | 3 => simp
  | 4 => simp
  | 5 => simp
  | _ + 6 => simp

/-! ### The feed that a record names (R104) -/

/-- The record is an ARRIVAL, YIELD or LOST record that names the feed `n`. -/
def NamesFeed (r : List Byte) (n : Nat) : Prop :=
  ((natAt r 0 1 = 1 ∧ natAt r 5 1 % 2 = 0) ∨ natAt r 0 1 = 2 ∨ natAt r 0 1 = 3) ∧ natAt r 4 1 = n

theorem recordFeed_eq_some_iff {r : List Byte} {n : Nat} : recordFeed r = some n ↔ NamesFeed r n := by
  unfold recordFeed NamesFeed recordKind
  match hkind : natAt r 0 1 with
  | 0 => simp
  | 1 => simp
  | 2 => simp
  | 3 => simp
  | _ + 4 => simp

theorem findFeed_eq_none {feeds : List FeedSlot} {n : Nat} (h : ∀ g ∈ feeds, g.cfg.feed ≠ n) : findFeed feeds n = none := by
  simpa [findFeed] using h

/-- The slot found is the first of the number. -/
theorem findFeed_first {pre post : List FeedSlot} {g : FeedSlot} (hpre : ∀ x ∈ pre, x.cfg.feed ≠ g.cfg.feed) :
    findFeed (pre ++ g :: post) g.cfg.feed = some g :=
  List.find?_eq_some_iff_append.2 ⟨decide_eq_true rfl, pre, post, rfl, fun x hx => by simpa using hpre x hx⟩

/-! ### The fate of a record (R103, R104) -/

section Fate

variable {s : State} {r : List Byte} {q : Nat}

variable (hs : s.loader.state = .serving)

include hs

theorem State.takeRecord_refused (hr : Refused r q) : s.takeRecord r q =
    { s with arbiter := { s.arbiter with refused := bump s.arbiter.refused } } := by
  have hfate : s.recordFate r q = .refused := (if_neg (not_not.2 hs)).trans (if_pos ((refusedRecord_iff r q).2 hr))
  rw [State.takeRecord, hfate]

variable (hr : ¬ Refused r q)

include hr

/-- A record that is not refused goes to the slot of the feed it names. -/
theorem State.recordFate_of_sound : s.recordFate r q =
    match (recordFeed r).bind (findFeed s.feeds) with
    | some f => .atTable f
    | none => .passedOver :=
  (if_neg (not_not.2 hs)).trans (if_neg (mt (refusedRecord_iff r q).1 hr))

theorem State.takeRecord_passedOver (hno : ∀ g ∈ s.feeds, ¬ NamesFeed r g.cfg.feed) : s.takeRecord r q =
    { s with arbiter := { s.arbiter with passedOver := bump s.arbiter.passedOver } } := by
  have hnone : (recordFeed r).bind (findFeed s.feeds) = none :=
    Option.bind_eq_none_iff.2 fun n hn =>
      findFeed_eq_none fun g hg e => hno g hg (recordFeed_eq_some_iff.1 (hn.trans (congrArg some e.symm)))
  rw [State.takeRecord, State.recordFate_of_sound hs hr, hnone]

theorem State.takeRecord_atTable {pre post : List FeedSlot} {g : FeedSlot} (hfeeds : s.feeds = pre ++ g :: post)
    (hnames : NamesFeed r g.cfg.feed) (hpre : ∀ x ∈ pre, x.cfg.feed ≠ g.cfg.feed) :
    s.takeRecord r q = s.recordAtTable r q g := by
  have hsome : (recordFeed r).bind (findFeed s.feeds) = some g := by
    rw [recordFeed_eq_some_iff.2 hnames, Option.bind_some, hfeeds, findFeed_first hpre]
  rw [State.takeRecord, State.recordFate_of_sound hs hr, hsome]

end Fate

/-! ### A record at its table (R105, R112, R115, R116) -/

section AtTable

variable {s : State} {r : List Byte} {q : Nat} {g : FeedSlot}

/-- The state with the table of a cage feed number replaced. -/
def State.putTable (s : State) (n : Nat) (t : Table) : State :=
  { s with feeds := modifyFeed s.feeds n (fun x => { x with table := t }) }

theorem State.recordAtTable_claim (hkind : natAt r 0 1 = 1) (hcode : 1 ≤ natAt r 1 1 ∧ natAt r 1 1 ≤ 6) :
    s.recordAtTable r q g =
      let w := claimWinner r q
      let j := g.table.judgePeer g.cfg (natAt r 8 8) (natAt r 16 2) s.loader.station w s.clock.tick
      (s.putTable g.cfg.feed j.table).handArbiter (j.records g.cfg.feed w s.clock.reading) := by
  exact (if_pos hkind).trans (if_pos ((isClaimCode_iff _).2 hcode))

theorem State.recordAtTable_nonClaim (hkind : natAt r 0 1 = 1) (hcode : 6 < natAt r 1 1) :
    s.recordAtTable r q g = s.putTable g.cfg.feed
      { g.table with peer := { g.table.peer with nonClaims := bump g.table.peer.nonClaims } } := by
  exact (if_pos hkind).trans (if_neg (mt (isClaimCode_iff _).1 fun h => Nat.not_lt.2 h.2 hcode))

theorem State.recordAtTable_yield (hkind : natAt r 0 1 = 2) :
    s.recordAtTable r q g = s.putTable g.cfg.feed
      (g.table.applyYield (natAt r 8 8) q s.loader.station (yieldWinner r)) := by
  have hother : ¬ recordKind r = 1 := fun h => absurd (hkind.symm.trans h) (by decide)
  exact (if_neg hother).trans (if_pos hkind)

theorem State.recordAtTable_lost (hkind : natAt r 0 1 = 3) :
    s.recordAtTable r q g = s.putTable g.cfg.feed
      { g.table with peer := { g.table.peer with lost := bump g.table.peer.lost } } := by
  have harrival : ¬ recordKind r = 1 := fun h => absurd (hkind.symm.trans h) (by decide)
  have hyield : ¬ recordKind r = 2 := fun h => absurd (hkind.symm.trans h) (by decide)
  exact (if_neg harrival).trans (if_neg hyield)

end AtTable

/-! ### The next record (R102) -/

theorem peerRecord_misnumbered {s : State} {f : PeerFrame} (hf : s.arbiter.frame = some f)
    (hno : f.station = s.loader.station ∨ 15 < f.station) : peerRecord s =
      { s with arbiter := { s.arbiter with frame := none, misnumbered := bump s.arbiter.misnumbered } } := by
  simp only [peerRecord, hf, if_pos hno]

/-- The state with the frame the arbiter holds replaced. -/
def State.withFrame (s : State) (f : Option PeerFrame) : State := { s with arbiter := { s.arbiter with frame := f } }

theorem peerRecord_takes {s : State} {q : Nat} {r : List Byte} {rest : List (List Byte)}
    (hf : s.arbiter.frame = some { station := q, records := r :: rest }) (hq : ¬ (q = s.loader.station ∨ 15 < q)) :
    peerRecord s = (s.withFrame (if rest = [] then none else some { station := q, records := rest })).takeRecord r q := by
  simp only [peerRecord, hf, if_neg hq, State.withFrame]

/-- Settles O16: the frame by its number; the record by its fate; at its table by its kind and, for an ARRIVAL, by its code. -/
theorem peerRecordFates : Obligations.PeerRecordFates := by
  refine ⟨fun s f hf hno => (exec_eq_effect _ _).trans (congrArg _ (peerRecord_misnumbered hf hno)), ?_⟩
  intro s q r rest hf hown hq left kind code length badDate badRange refused names
  have hexec : exec .peerRecord s = .next ((s.withFrame left).takeRecord r q) :=
    (exec_eq_effect _ _).trans (congrArg _ (peerRecord_takes hf (not_or.2 ⟨hown, Nat.not_lt.2 hq⟩)))
  refine ⟨fun hs => ?_, fun hs hr => ?_, fun hs hr hno => ?_, fun pre g post hs hr hfeeds hnames hpre => ?_⟩
  · rw [hexec, State.takeRecord_of_not_serving (s := s.withFrame left) hs]
    rfl
  · rw [hexec, State.takeRecord_refused (s := s.withFrame left) hs hr]
    rfl
  · rw [hexec, State.takeRecord_passedOver (s := s.withFrame left) hs hr hno]
    rfl
  · intro put
    rw [State.takeRecord_atTable (s := s.withFrame left) hs hr hfeeds hnames hpre] at hexec
    refine ⟨fun hkind hcode => ?_, fun hkind hcode => ?_, fun hkind => ?_, fun hkind => ?_⟩
    · intro w j losses yielded
      have hcode' : 1 ≤ code := Nat.pos_of_ne_zero fun h => hr (.inr (.inr (.inl ⟨hkind, .inr (.inl h)⟩)))
      rw [hexec, State.recordAtTable_claim hkind ⟨hcode', hcode⟩]
      rfl
    · rw [hexec, State.recordAtTable_nonClaim hkind hcode]
      rfl
    · rw [hexec, State.recordAtTable_yield hkind]
      rfl
    · rw [hexec, State.recordAtTable_lost hkind]
      rfl

end Sys2Proof.Machine
end

section
/-! ## Pages and the chains that hold them (R123, R125, R129, R131) -/

namespace Sys2Proof.Machine

set_option Elab.async false

/-! ### The pages of a line in places that may hold a chain -/

/-- The pages of line `i` in a chain, where there is one. -/
def chainPages (i : Line) (c : Option Chain) : Nat := pagesOf c.toList i

/-- The pages of line `i` in a list of places that may each hold a chain. -/
def pagesIn (cs : List (Option Chain)) (i : Line) : Nat := (cs.map (chainPages i)).sum

@[simp] theorem chainPages_none (i : Line) : chainPages i none = 0 := rfl

@[simp] theorem chainPages_some (i : Line) (c : Chain) :
    chainPages i (some c) = if c.line = i then c.pages.length else 0 := pagesOf_cons c [] i

@[simp] theorem pagesIn_nil (i : Line) : pagesIn [] i = 0 := rfl

@[simp] theorem pagesIn_cons (c : Option Chain) (cs : List (Option Chain)) (i : Line) :
    pagesIn (c :: cs) i = chainPages i c + pagesIn cs i := by simp [pagesIn]

@[simp] theorem pagesIn_append (cs ds : List (Option Chain)) (i : Line) :
    pagesIn (cs ++ ds) i = pagesIn cs i + pagesIn ds i := by simp [pagesIn]

theorem pagesOf_reduceOption (cs : List (Option Chain)) (i : Line) : pagesOf cs.reduceOption i = pagesIn cs i := by
  induction cs with
  | nil => rfl
  | cons c cs ih => cases c <;> simp [pagesOf_cons, ih]

/-- The first place that passes a test is taken out of a list. -/
theorem pagesIn_eraseP {α : Type} (chain : α → Option Chain) {p : α → Bool} {xs : List α} {x : α}
    (h : xs.find? p = some x) (i : Line) :
    chainPages i (chain x) + pagesIn ((xs.eraseP p).map chain) i = pagesIn (xs.map chain) i := by
  induction xs with
  | nil => cases h
  | cons y ys ih =>
    cases hy : p y with
    | true =>
      rw [List.find?_cons_of_pos hy] at h
      cases h
      simp [hy]
    | false =>
      rw [List.find?_cons_of_neg (by simp [hy])] at h
      have := ih h
      simp [hy]
      omega

/-- One line of eight rewritten. -/
theorem pagesIn_lines_set (ls : PerLine LineRx) (j : Line) (l : LineRx) (i : Line) :
    pagesIn ((ls.set j l).toList.map LineRx.chain) i + chainPages i (ls.get j).chain =
      pagesIn (ls.toList.map LineRx.chain) i + chainPages i l.chain := by
  fin_cases j <;> simp [PerLine.set, PerLine.get, PerLine.toList] <;> omega

/-! ### What a byte, a trim and a strip make of a chain's pages -/

theorem pagesFor_eq (n : Nat) : pagesFor n = (n + 255) / 256 := rfl

@[simp] theorem Chain.append_line (c : Chain) (b : Byte) : (c.append b).line = c.line := rfl

@[simp] theorem Chain.append_stored (c : Chain) (b : Byte) : (c.append b).stored = c.stored + 1 := rfl

theorem Chain.append_pages (c : Chain) (b : Byte) :
    (c.append b).pages = if c.stored % 256 = 0 then c.pages ++ [[Cell.write b]]
      else c.pages.dropLast ++ [c.pages.getLast?.getD [] ++ [Cell.write b]] := rfl

/-- A byte takes a page when the pages are full, and none else (R125). -/
theorem pagesFor_succ (n : Nat) : pagesFor (n + 1) = pagesFor n + if n % 256 = 0 then 1 else 0 := by
  rw [pagesFor_eq, pagesFor_eq]
  split <;> omega

theorem Chain.append_pages_length {c : Chain} (h : c.pages.length = pagesFor c.stored) (b : Byte) :
    (c.append b).pages.length = pagesFor (c.append b).stored := by
  rw [Chain.append_stored, pagesFor_succ, Chain.append_pages]
  split
  · simp [h]
  · rw [pagesFor_eq] at *
    simp
    omega

theorem Chain.chainPages_append {c : Chain} (h : c.pages.length = pagesFor c.stored) (b : Byte) (i : Line) :
    chainPages i (some (c.append b)) =
      chainPages i (some c) + if c.line = i ∧ c.stored % 256 = 0 then 1 else 0 := by
  rw [chainPages_some, chainPages_some, Chain.append_line, Chain.append_pages_length h, Chain.append_stored, pagesFor_succ, h]
  split <;> simp [*]

@[simp] theorem Record.chain_stripped (r : Record) : r.stripped.chain = r.chain.map Chain.emptied := by
  cases r <;> rfl

/-- A stripped record holds no page (R131). -/
@[simp] theorem chainPages_emptied (c : Option Chain) (i : Line) : chainPages i (c.map Chain.emptied) = 0 := by
  cases c <;> simp [Chain.emptied]

/-! ### The pages a pool accounts for -/

/-- The pool accounts for `n i` pages of each line `i`: they and the free pages are all there are, within the quota (R123, R125),
and the low mark is not above the free count (R134). -/
structure Pool.Accounts (p : Pool) (n : Line → Nat) : Prop where
  total : p.free + p.held.toList.sum = Config.poolPages
  held : ∀ i, p.held.get i = n i
  quota : ∀ i, p.held.get i ≤ Config.lineQuota
  low : p.low ≤ p.free

namespace Pool.Accounts

variable {p : Pool} {n m : Line → Nat}

/-- The accounts read the free list, the held counts and the low mark; the low mark may stand anywhere not above the free count. -/
theorem of_eq {q : Pool} (h : p.Accounts n) (hfree : q.free = p.free) (hheld : q.held = p.held) (hlow : q.low ≤ q.free)
    (hn : ∀ i, m i = n i) : q.Accounts m :=
  ⟨by rw [hfree, hheld]; exact h.total, fun i => by rw [hheld, h.held, hn], by rw [hheld]; exact h.quota, hlow⟩

/-- Pages of a line go back to the free list (R123). -/
theorem release {j : Line} {k : Nat} (h : p.Accounts n) (hn : ∀ i, n i = (if j = i then k else 0) + m i) :
    (p.release j k).Accounts m := by
  have hk : p.held.get j = k + m j := by rw [h.held, hn, if_pos rfl]
  have hget : ∀ i, (p.release j k).held.get i = m i := fun i => by
    rw [Pool.release_held, PerLine.get_set]
    split
    next e => subst e; omega
    next e => rw [h.held, hn, if_neg (Ne.symm e), Nat.zero_add]
  refine ⟨(p.release_total j k (by omega)).trans h.total, hget, fun i => ?_, Nat.le_add_right_of_le h.low⟩
  have := h.quota i
  rw [h.held, hn] at this
  rw [hget]
  omega

theorem releaseOpt {c : Option Chain} (h : p.Accounts n) (hn : ∀ i, n i = chainPages i c + m i) :
    (p.releaseOpt c).Accounts m := by
  cases c with
  | none => exact h.of_eq rfl rfl h.low fun i => by rw [hn]; simp
  | some c => exact h.release fun i => by rw [hn, chainPages_some]

theorem releaseAll {cs : List (Option Chain)} (h : p.Accounts n) (hn : ∀ i, n i = pagesIn cs i + m i) :
    (p.releaseAll cs).Accounts m := by
  induction cs generalizing p n with
  | nil => exact h.of_eq rfl rfl h.low fun i => by rw [hn]; simp
  | cons c cs ih =>
    exact ih (h.releaseOpt (m := fun i => pagesIn cs i + m i) fun i => by rw [hn, pagesIn_cons, Nat.add_assoc]) fun _ => rfl

/-- A trim gives back the pages beyond the held length; the trimmed chain keeps the others (R129). -/
theorem trim {c : Option Chain} {mode : Carriage} (h : p.Accounts n)
    (hn : ∀ i, n i + chainPages i (c.map (·.trim mode)) = chainPages i c + m i) : (p.trim c mode).Accounts m := by
  cases c with
  | none => exact h.of_eq rfl rfl h.low fun i => by simpa using (hn i).symm
  | some c =>
    refine h.release fun i => ?_
    have hle := c.trim_pages_le mode
    have := hn i
    rw [Option.map_some, chainPages_some, chainPages_some, Chain.trim_line] at this
    split at this <;> simp [*] <;> omega

/-- A page is taken from a free list that is not empty, for a line below its quota (R125). -/
theorem take {j : Line} (h : p.Accounts n) (hfree : p.free ≠ 0) (hquota : p.held.get j ≠ Config.lineQuota)
    (hm : ∀ i, m i = n i + if j = i then 1 else 0) : (p.take j).Accounts m := by
  have hget : ∀ i, (p.take j).held.get i = m i := fun i => by
    rw [hm, ← h.held]
    simp only [Pool.take, PerLine.get_set]
    split
    next e => simp [e]
    next e => simp [Ne.symm e]
  refine ⟨(p.take_total j (Nat.pos_of_ne_zero hfree)).trans h.total, hget, fun i => ?_, Nat.min_le_right _ _⟩
  have hi := h.quota i
  rw [hget, hm, ← h.held]
  split
  next e => subst e; omega
  · exact hi

end Pool.Accounts

end Sys2Proof.Machine
end

section
/-! ## Every step keeps the pages accounted for (R123 to R125, R127 to R131, R135, R150) -/

namespace Sys2Proof.Machine

set_option Elab.async false

/-! ### The pages that the chains of the station hold -/

/-- The pages of line `i` in the chains of records. -/
def recordPages (rs : List Record) (i : Line) : Nat := pagesIn (rs.map Record.chain) i

@[simp] theorem recordPages_nil (i : Line) : recordPages [] i = 0 := rfl

@[simp] theorem recordPages_cons (r : Record) (rs : List Record) (i : Line) :
    recordPages (r :: rs) i = chainPages i r.chain + recordPages rs i := by simp [recordPages]

@[simp] theorem recordPages_append (rs qs : List Record) (i : Line) :
    recordPages (rs ++ qs) i = recordPages rs i + recordPages qs i := by simp [recordPages]

/-- Records that carry no chain hold no page. -/
theorem recordPages_of_no_chain {rs : List Record} (h : ∀ r ∈ rs, r.chain = none) (i : Line) : recordPages rs i = 0 := by
  induction rs with
  | nil => rfl
  | cons r rs ih => simp [h r, ih fun q hq => h q (List.mem_cons_of_mem _ hq)]

/-- The records of the ready frame slot. -/
def readyRecords (f : Option ReadyFrame) : List Record := (f.map ReadyFrame.records).getD []

/-- The pages of line `i` in the records the Publisher holds. -/
def Publisher.pages (p : Publisher) (i : Line) : Nat := recordPages p.records i

theorem Publisher.pages_eq (p : Publisher) (i : Line) :
    p.pages i = recordPages p.queue i + recordPages p.asm i + recordPages (readyRecords p.ready) i +
      recordPages p.fromClassifier i + recordPages p.fromArbiter i + recordPages p.fromMarks i := by
  rw [Publisher.pages, Publisher.records]
  cases h : p.ready <;> simp [readyRecords] <;> omega

/-- The pages of line `i` in every chain of the station. -/
def State.pages (s : State) (i : Line) : Nat :=
  pagesIn (s.lines.toList.map LineRx.chain) i + pagesIn (s.handOffs.map HandOff.chain) i +
    pagesIn (s.arrivals.map Arrival.chain) i + s.pub.pages i

theorem State.pagesOf_chains (s : State) (i : Line) : pagesOf s.chains i = s.pages i := by
  rw [State.chains, pagesOf_reduceOption, pagesIn_append, pagesIn_append, pagesIn_append]
  rfl

/-- The pool accounts for the chains of the station and for those that a command has in hand, on their way from one place to
another; each line's frame is sound. -/
structure State.Accounted (s : State) (hand : List (Option Chain)) : Prop where
  pool : s.pool.Accounts fun i => pagesIn hand i + s.pages i
  marked : ∀ i, (s.lines.get i).chainMarked

theorem State.poolSound_iff (s : State) : s.PoolSound ↔ s.Accounted [] := by
  have hpages : ∀ i, pagesIn [] i + s.pages i = pagesOf s.chains i := fun i => by rw [s.pagesOf_chains]; simp
  constructor
  · rintro ⟨htotal, hheld, hquota, hlow, hmarked⟩
    exact ⟨⟨htotal, fun i => by rw [hheld, hpages], hquota, hlow⟩, hmarked⟩
  · rintro ⟨⟨htotal, hheld, hquota, hlow⟩, hmarked⟩
    exact ⟨htotal, fun i => by rw [hheld, hpages], hquota, hlow, hmarked⟩

/-! ### A frame in flight -/

theorem LineRx.chain_of_frame {l : LineRx} {f : FrameRec} (h : l.frame = some f) : l.chain = f.chain := by
  simp only [LineRx.chain, h]

theorem LineRx.chain_of_eq {l m : LineRx} (h : m.frame = l.frame) : m.chain = l.chain := by
  rw [LineRx.chain_eq_bind, LineRx.chain_eq_bind, h]

theorem LineRx.chainMarked_iff (l : LineRx) :
    l.chainMarked ↔ ∀ f, l.frame = some f → ∀ c, f.chain = some c →
      f.cls = .live ∧ f.mark = true ∧ c.pages.length = pagesFor c.stored := by
  cases h : l.frame <;> simp [LineRx.chainMarked, h]

theorem LineRx.chainMarked_of_none {l : LineRx} (h : l.frame = none) : l.chainMarked := by simp [LineRx.chainMarked_iff, h]

theorem LineRx.chainMarked.of_eq {l m : LineRx} (h : l.chainMarked) (e : m.frame = l.frame) : m.chainMarked := by
  rw [LineRx.chainMarked_iff] at h ⊢
  rwa [e]

/-- The next byte of a frame changes neither its class, nor its mark, nor its chain. -/
theorem LineRx.chainMarked.byte {l : LineRx} {f : FrameRec} (h : l.chainMarked) (hf : l.frame = some f) (b : Byte) (e : Bool)
    (cut : Bool) : ({ l with frame := some { f.byte b e with truncated := cut } } : LineRx).chainMarked := by
  rw [LineRx.chainMarked_iff] at h ⊢
  rintro g hg
  cases hg
  exact h f hf

/-! ### Chains on their way -/

namespace State.Accounted

variable {s t : State} {hand hand' : List (Option Chain)}

/-- The pages in hand and those in the station's chains go from place to place, the pool standing. -/
theorem move (h : s.Accounted hand) (hpool : t.pool = s.pool) (hmarked : ∀ i, (t.lines.get i).chainMarked)
    (hpages : ∀ i, pagesIn hand' i + t.pages i = pagesIn hand i + s.pages i) : t.Accounted hand' :=
  ⟨hpool ▸ h.pool.of_eq rfl rfl h.pool.low hpages, hmarked⟩

/-- A command that leaves the frames, the hand-offs and the arrivals moves pages between its hand and the Publisher alone. -/
theorem movePub (h : s.Accounted hand) (hframes : ∀ i, (t.lines.get i).frame = (s.lines.get i).frame)
    (hhandOffs : t.handOffs = s.handOffs) (harrivals : t.arrivals = s.arrivals) (hpool : t.pool = s.pool)
    (hpub : ∀ i, pagesIn hand' i + t.pub.pages i = pagesIn hand i + s.pub.pages i) : t.Accounted hand' := by
  have hchains : t.lines.toList.map LineRx.chain = s.lines.toList.map LineRx.chain := by
    have hmap : t.lines.map LineRx.chain = s.lines.map LineRx.chain := by
      ext1 i
      rw [PerLine.get_map, PerLine.get_map, LineRx.chain_of_eq (hframes i)]
    rw [← PerLine.toList_map, ← PerLine.toList_map, hmap]
  refine h.move hpool (fun i => (h.marked i).of_eq (hframes i)) fun i => ?_
  have := hpub i
  simp only [State.pages, hchains, hhandOffs, harrivals]
  omega

/-- A command that leaves every chain in its place. -/
theorem of_same (h : s.Accounted hand) (hframes : ∀ i, (t.lines.get i).frame = (s.lines.get i).frame)
    (hhandOffs : t.handOffs = s.handOffs) (harrivals : t.arrivals = s.arrivals) (hpool : t.pool = s.pool)
    (hpub : t.pub.records = s.pub.records) : t.Accounted hand :=
  h.movePub hframes hhandOffs harrivals hpool fun i => by rw [Publisher.pages, Publisher.pages, hpub]

/-- A rewritten line moves pages between the hand and its frame. -/
theorem setLine (h : s.Accounted hand) {j : Line} {l : LineRx} (hmarked : l.chainMarked)
    (hpages : ∀ i, pagesIn hand' i + chainPages i l.chain = pagesIn hand i + chainPages i (s.lines.get j).chain) :
    ({ s with lines := s.lines.set j l } : State).Accounted hand' := by
  refine h.move rfl (fun i => ?_) fun i => ?_
  · rw [PerLine.get_set]
    split
    · exact hmarked
    · exact h.marked i
  · have hset := pagesIn_lines_set s.lines j l i
    have := hpages i
    simp only [State.pages]
    omega

/-- A line rewritten beside its frame. -/
theorem setLine_same (h : s.Accounted hand) {j : Line} {l : LineRx} (hframe : l.frame = (s.lines.get j).frame) :
    ({ s with lines := s.lines.set j l } : State).Accounted hand :=
  h.setLine ((h.marked j).of_eq hframe) fun i => by rw [LineRx.chain_of_eq hframe]

/-- The pool's counters are no accounts (R134). -/
theorem setCounters (h : s.Accounted hand) (poolRefusals quotaRefusals storeFaults : Nat) :
    ({ s with pool := { s.pool with
      poolRefusals := poolRefusals, quotaRefusals := quotaRefusals, storeFaults := storeFaults } } : State).Accounted hand :=
  ⟨h.pool.of_eq rfl rfl h.pool.low fun _ => rfl, h.marked⟩

/-- The chains in hand are released (R130, R131). -/
theorem releaseAll (h : s.Accounted hand) : ({ s with pool := s.pool.releaseAll hand } : State).Accounted [] :=
  ⟨h.pool.releaseAll fun i => by rw [pagesIn_nil, Nat.zero_add]; rfl, h.marked⟩

theorem releaseOpt {c : Option Chain} (h : s.Accounted [c]) :
    ({ s with pool := s.pool.releaseOpt c } : State).Accounted [] := h.releaseAll

/-- A page is taken from the free list, and is in hand (R125). -/
theorem takePage (h : s.Accounted []) {j : Line} (hfree : s.pool.free ≠ 0) (hquota : s.pool.held.get j ≠ Config.lineQuota) :
    ({ s with pool := s.pool.take j } : State).Accounted [some { line := j, pages := [[]] }] := by
  refine ⟨h.pool.take hfree hquota fun i => ?_, h.marked⟩
  simp [State.pages]
  omega

/-- The chain in hand is trimmed (R129). -/
theorem trim {c : Option Chain} (h : s.Accounted [c]) (mode : Carriage) :
    ({ s with pool := s.pool.trim c mode } : State).Accounted [c.map (·.trim mode)] := by
  refine ⟨h.pool.trim (c := c) fun i => ?_, h.marked⟩
  simp only [pagesIn_cons, pagesIn_nil, State.pages]
  omega

/-- A command that leaves the blocks where chains stand keeps the accounts. -/
theorem of_sameBut {w : Touched} (h : s.Accounted hand) (e : SameBut w s t) (hlines : w.lines = false)
    (hhandOffs : w.handOffs = false) (harrivals : w.arrivals = false) (hpool : w.pool = false) (hpub : w.pub = false) :
    t.Accounted hand :=
  h.of_same (fun i => by rw [e.lines hlines]) (e.handOffs hhandOffs) (e.arrivals harrivals) (e.pool hpool) (by rw [e.pub hpub])

end State.Accounted

/-! ### The Line Receivers -/

theorem lineLinkUp_accounted (i : Line) {s : State} (h : s.Accounted []) : (lineLinkUp i s).Accounted [] := by
  unfold lineLinkUp
  split
  · exact h.setLine_same rfl
  · exact h

/-- The chain of a frame that is cut is released (R2, R130). -/
theorem lineLinkLoss_accounted (i : Line) {s : State} (h : s.Accounted []) : (lineLinkLoss i s).Accounted [] := by
  unfold lineLinkLoss
  split
  · exact h
  · have hcut : ({ s with lines := s.lines.set i (s.lines.get i).linkLoss } : State).Accounted [(s.lines.get i).chain] :=
      h.setLine (LineRx.chainMarked_of_none rfl) fun j => by simp [LineRx.chain, LineRx.linkLoss]
    exact hcut.releaseOpt.of_same (fun _ => rfl) rfl rfl rfl rfl

theorem settleExpiry_accounted (i : Line) {s : State} (h : s.Accounted []) : (settleExpiry i s).Accounted [] := by
  unfold settleExpiry
  dsimp only
  split
  · split
    · exact h.setLine_same rfl
    · exact (h.setLine_same (j := i) (l := { s.lines.get i with state := .faulted, settleTimer := none }) rfl).of_same
        (fun _ => rfl) rfl rfl rfl rfl
  · exact h

theorem silenceExpiry_accounted (i : Line) {s : State} (h : s.Accounted []) : (silenceExpiry i s).Accounted [] := by
  unfold silenceExpiry
  split
  · exact (h.setLine_same (j := i) (l := { s.lines.get i with state := .silent, silenceTimer := none }) rfl).of_same
      (fun _ => rfl) rfl rfl rfl rfl
  · exact h

/-- A frame starts with no page (R124). -/
theorem openFrame_marked (l : LineRx) (cls : FrameClass) (serving : Bool) (date : CageTime) (i : Line) (carriage : Carriage) :
    let m : LineRx := { l with frame := some (openFrame cls serving date i carriage) }
    m.chainMarked ∧ ∀ j, chainPages j m.chain = 0 := by
  refine ⟨(LineRx.chainMarked_iff _).2 ?_, fun j => ?_⟩
  · rintro f ⟨⟩ c hc
    simp only [openFrame, Option.ite_none_right_eq_some, Bool.and_eq_true, decide_eq_true_eq] at hc ⊢
    obtain ⟨⟨⟨hcls, hserving⟩, -⟩, hc⟩ := hc
    cases hc
    exact ⟨hcls, ⟨hcls, hserving⟩, by simp [pagesFor_eq]⟩
  · simp only [LineRx.chain, openFrame]
    split <;> simp

theorem startFrame_accounted (i : Line) (phase : Fin 16) {s : State} (h : s.Accounted []) :
    (startFrame i phase s).Accounted [] := by
  unfold startFrame
  split
  next cls hcls hframe =>
    obtain ⟨hmarked, hpages⟩ := openFrame_marked (s.lines.get i) cls (decide (s.loader.state = .serving))
      (s.clock.date phase (s.lineCfg i).trim) i (lineCarriage s.feeds i)
    exact h.setLine hmarked fun j => by rw [hpages, LineRx.chain, hframe]; rfl
  · exact h

theorem FrameRec.offers_some {f : FrameRec} {c : Chain} (h : f.offers = some c) : f.chain = some c := by
  unfold FrameRec.offers at h
  split at h
  · exact h
  · cases h

/-- A byte that is not stored leaves the pages as they are (R125). -/
theorem State.Accounted.unstored {s : State} (h : s.Accounted []) {i : Line} {f : FrameRec} (hf : (s.lines.get i).frame = some f)
    (b : Byte) (e cut : Bool) : ({ s with lines := s.lines.set i { s.lines.get i with
      frame := some { f.byte b e with truncated := cut } } } : State).Accounted [] :=
  h.setLine ((h.marked i).byte hf b e cut) fun j => by rw [LineRx.chain_of_frame hf]; rfl

/-- A stored byte keeps the frame sound, and adds a page to its chain when the pages were full (R125). -/
theorem LineRx.chainMarked.store {l : LineRx} {f : FrameRec} {c : Chain} (h : l.chainMarked) (hf : l.frame = some f)
    (hc : f.chain = some c) (b : Byte) (e : Bool) :
    let m : LineRx := { l with frame := some { f.byte b e with chain := some (c.append b) } }
    m.chainMarked ∧
      ∀ j, chainPages j m.chain = chainPages j l.chain + if c.line = j ∧ c.stored % 256 = 0 then 1 else 0 := by
  obtain ⟨hcls, hmark, hlen⟩ := (LineRx.chainMarked_iff _).1 h f hf c hc
  refine ⟨(LineRx.chainMarked_iff _).2 ?_, fun j => ?_⟩
  · rintro g ⟨⟩ d ⟨⟩
    exact ⟨hcls, hmark, Chain.append_pages_length hlen b⟩
  · rw [LineRx.chain_of_frame hf, hc]
    exact Chain.chainPages_append hlen b j

theorem frameByte_accounted (i : Line) (b : Byte) (e : Bool) {s : State} (h : s.Accounted []) :
    (frameByte i b e s).Accounted [] := by
  cases hf : (s.lines.get i).frame with
  | none => simpa only [frameByte, hf] using h
  | some f =>
    cases ho : f.offers with
    | none => rw [frameByte_not_offered hf ho]; exact h.unstored hf b e f.truncated
    | some c =>
      obtain ⟨hmarked, hpages⟩ := (h.marked i).store hf (FrameRec.offers_some ho) b e
      rcases s.pool.offer_cases c (lineCarriage s.feeds i) with
        ⟨hoffer, -⟩ | ⟨hoffer, -, hroom⟩ | ⟨hoffer, -⟩ | ⟨hoffer, -⟩ | ⟨hoffer, -, hfull, hfree, hquota⟩
      · rw [frameByte_passed hf ho hoffer]
        exact h.unstored hf b e f.truncated
      · rw [frameByte_stored hf ho hoffer]
        exact h.setLine hmarked fun j => by rw [hpages, if_neg fun hfull => hroom hfull.2, Nat.add_zero]
      · rw [frameByte_poolRefused hf ho hoffer]
        exact ((h.unstored hf b e true).setCounters _ _ _).of_same (fun _ => rfl) rfl rfl rfl rfl
      · rw [frameByte_quotaRefused hf ho hoffer]
        exact ((h.unstored hf b e true).setCounters _ _ _).of_same (fun _ => rfl) rfl rfl rfl rfl
      · rw [frameByte_newPage hf ho hoffer]
        refine (h.takePage hfree hquota).setLine hmarked fun j => ?_
        rw [hpages]
        simp [show c.stored % 256 = 0 from hfull]
        omega

/-- The hand-off carries the chain of the frame, page for page (R10, R127). -/
theorem FrameRec.chainPages_handOff (f : FrameRec) (i j : Line) : chainPages j (f.handOff i).chain = chainPages j f.chain := by
  cases h : f.chain <;> simp [FrameRec.handOff, h]

/-- The chain of a frame at its end is released, or goes with its hand-off (R9, R10, R127). -/
theorem frameEnd_accounted (i : Line) {s : State} (h : s.Accounted []) : (frameEnd i s).Accounted [] := by
  cases hf : (s.lines.get i).frame with
  | none => simpa only [frameEnd, hf] using h
  | some f =>
    have hended := (s.lines.get i).endFrame_frame f (s.clock.tick + (s.lineCfg i).silenceMs * 250000)
    have hout := h.setLine (hand' := [f.chain]) (LineRx.chainMarked_of_none hended) fun j => by
      rw [LineRx.chain_of_frame hf, LineRx.chain, hended]
      simp
    by_cases hmark : f.cls = .live ∧ f.mark = true
    · rw [frameEnd_hands hf hmark]
      refine hout.move rfl hout.marked fun j => ?_
      have := f.chainPages_handOff i j
      simp only [State.pages, pagesIn_cons, pagesIn_nil, List.map_append, pagesIn_append, List.map_cons, List.map_nil]
      omega
    · rw [frameEnd_discards hf hmark]
      exact hout.releaseOpt

/-! ### The Feed Classifier and the Sequence Arbiter -/

/-- The chain in hand goes with a record that a maker hands over. -/
theorem State.Accounted.handClassifier {s : State} {a : ArrivalRec} {hand : List (Option Chain)} (h : s.Accounted hand)
    (ha : ∀ i, chainPages i a.chain = pagesIn hand i) : (s.handClassifier a).Accounted [] := by
  refine h.movePub (fun _ => rfl) rfl rfl rfl fun i => ?_
  simp [Publisher.pages_eq, Record.chain, ha]
  omega

theorem State.Accounted.handArbiter {s : State} {rs : List Record} {hand : List (Option Chain)} (h : s.Accounted hand)
    (hrs : ∀ i, recordPages rs i = pagesIn hand i) : (s.handArbiter rs).Accounted [] := by
  refine h.movePub (fun _ => rfl) rfl rfl rfl fun i => ?_
  simp [Publisher.pages_eq, hrs]
  omega

@[simp] theorem recordPages_lostRecords (feed : Nat) (reading : CageTime) (losses : List LostGap) (i : Line) :
    recordPages (lostRecords feed reading losses) i = 0 :=
  recordPages_of_no_chain (fun r hr => by obtain ⟨g, -, rfl⟩ := List.mem_map.1 hr; rfl) i

/-- A hand-off's chain is released, or goes trimmed with its record, or whole with its arrival (R66 to R71). -/
theorem State.classified_accounted {s : State} {h : HandOff} (hs : s.Accounted [h.chain]) : (s.classified h).Accounted [] := by
  have htrim (mode : Carriage) (feeds : List FeedSlot) :
      ({ s with feeds := feeds, pool := s.pool.trim h.chain mode } : State).Accounted [h.chain.map (·.trim mode)] :=
    (hs.trim mode).of_same (fun _ => rfl) rfl rfl rfl rfl
  have hrelease (feeds : List FeedSlot) :
      ({ s with feeds := feeds, pool := s.pool.releaseOpt h.chain } : State).Accounted [] :=
    hs.releaseOpt.of_same (fun _ => rfl) rfl rfl rfl rfl
  cases hc : classify s.feeds h with
  | unmatched =>
    rw [State.classified_unmatched hc]
    exact hs.releaseOpt.setLine_same rfl
  | damaged f cause =>
    cases hline : f.cfg.onLine h.line with
    | true => rw [State.classified_damaged_onLine hc hline]; exact (htrim _ _).handClassifier fun _ => (Nat.add_zero _).symm
    | false =>
      rw [State.classified_damaged_offLine hc hline]
      exact (hrelease _).handClassifier fun _ => rfl
  | stray f first count => rw [State.classified_stray hc]; exact (htrim _ _).handClassifier fun _ => (Nat.add_zero _).symm
  | malformed f cause => rw [State.classified_malformed hc]; exact (htrim _ _).handClassifier fun _ => (Nat.add_zero _).symm
  | range k f first count =>
    rw [State.classified_range hc]
    refine hs.move rfl hs.marked fun i => ?_
    simp [State.pages]
    omega

theorem classifyHandOff_accounted (i : Line) {s : State} (h : s.Accounted []) : (classifyHandOff i s).Accounted [] := by
  cases hfind : s.handOffs.find? (fun x => decide (x.line = i)) with
  | none => simpa only [classifyHandOff, hfind] using h
  | some x =>
    simp only [classifyHandOff, hfind]
    refine State.classified_accounted (h.move rfl h.marked fun j => ?_)
    have := pagesIn_eraseP HandOff.chain hfind j
    simp [State.pages]
    omega

/-- The chain of a judged arrival goes trimmed with its record (R97, R129). -/
theorem State.takeArrival_accounted {s : State} {a : Arrival} (f : FeedSlot) (h : s.Accounted [a.chain]) :
    (s.takeArrival a f).Accounted [] := by
  refine State.Accounted.handArbiter (hand := [a.chain.map (·.trim f.cfg.carriage)]) ?_ fun i => ?_
  · exact (h.trim f.cfg.carriage).of_same (fun _ => rfl) rfl rfl rfl rfl
  · simp [Record.chain, Arrival.record]

theorem localArrival_accounted (i : Line) {s : State} (h : s.Accounted []) : (localArrival i s).Accounted [] := by
  cases hfind : s.arrivals.find? (fun x => decide (x.line = i)) with
  | none => simpa only [localArrival, hfind] using h
  | some a =>
    have hout : ({ s with arrivals := s.arrivals.eraseP (fun x => decide (x.line = i)) } : State).Accounted [a.chain] := by
      refine h.move rfl h.marked fun j => ?_
      have := pagesIn_eraseP Arrival.chain hfind j
      simp [State.pages]
      omega
    simp only [localArrival, hfind]
    split
    · exact State.takeArrival_accounted _ hout
    · exact hout.releaseOpt

theorem gapExpiry_accounted (i : Fin 32) {s : State} (h : s.Accounted []) : (gapExpiry i s).Accounted [] := by
  unfold gapExpiry
  split
  · exact h
  next f _ =>
    split
    · exact h
    · dsimp only
      split
      · have hslot (x : FeedSlot) : (s.setSlot i.val x).Accounted [] := h.of_same (fun _ => rfl) rfl rfl rfl rfl
        exact ((hslot _).handArbiter (recordPages_lostRecords _ _ _)).of_same (fun _ => rfl) rfl rfl rfl rfl
      · exact h

/-- What a peer claim makes known are losses and a YIELD, and neither carries a chain (R138, R139). -/
theorem PeerJudgement.recordPages_records (j : PeerJudgement) (feed : Nat) (w : Winner) (reading : CageTime) (i : Line) :
    recordPages (j.records feed w reading) i = 0 := by
  rw [PeerJudgement.records, recordPages_append, recordPages_lostRecords, Nat.zero_add]
  cases j.yielded <;> rfl

theorem State.takeRecord_accounted {s : State} (h : s.Accounted []) (r : List Byte) (q : Nat) :
    (s.takeRecord r q).Accounted [] := by
  have hfeeds (feeds : List FeedSlot) : ({ s with feeds := feeds } : State).Accounted [] :=
    h.of_same (fun _ => rfl) rfl rfl rfl rfl
  unfold State.takeRecord
  split
  case h_4 f _ =>
    unfold State.recordAtTable
    dsimp only
    split
    · split
      · exact (hfeeds _).handArbiter fun i => PeerJudgement.recordPages_records _ _ _ _ i
      · exact hfeeds _
    · split <;> exact hfeeds _
  all_goals exact h.of_same (fun _ => rfl) rfl rfl rfl rfl

theorem peerRecord_accounted {s : State} (h : s.Accounted []) : (peerRecord s).Accounted [] := by
  have hframe (a : Arbiter) : ({ s with arbiter := a } : State).Accounted [] := h.of_same (fun _ => rfl) rfl rfl rfl rfl
  unfold peerRecord
  split
  · exact h
  · split
    · exact hframe _
    · split
      · exact hframe _
      · exact State.takeRecord_accounted (hframe _) _ _

end Sys2Proof.Machine
end

section
/-! ## Every step keeps the pages accounted for: the Publisher, leaving service, and every command (R123, R130, R131, R135, R141 to
R150) -/

namespace Sys2Proof.Machine

set_option Elab.async false

/-! ### The Publisher -/

/-- The frame under assembly becomes the ready frame, with its records (R149). -/
theorem State.closeFrame_pages {s : State} (h : s.pub.ready = none) (i : Line) : s.closeFrame.pub.pages i = s.pub.pages i := by
  simp [Publisher.pages_eq, State.closeFrame, readyRecords, h]

theorem State.closingCondition_pages (s : State) (i : Line) : s.closingCondition.pub.pages i = s.pub.pages i := by
  rcases s.closingCondition_cases with ⟨h, e⟩ | ⟨-, e⟩ <;> rw [e]
  · exact State.closeFrame_pages h i
  · rfl

theorem State.checkFull_pages (s : State) (i : Line) : s.checkFull.pub.pages i = s.pub.pages i := by
  unfold State.checkFull
  split
  · exact s.closingCondition_pages i
  · rfl

theorem State.checkShedding_pages (s : State) (i : Line) : s.checkShedding.pub.pages i = s.pub.pages i := by
  unfold State.checkShedding
  split <;> rfl

/-- A SUMMARY record carries no chain (R139). -/
theorem recordPages_summaries (feeds : List FeedSlot) (i : Line) : recordPages (summaries feeds) i = 0 := by
  refine recordPages_of_no_chain (fun r hr => ?_) i
  obtain ⟨f, -, hf⟩ := List.mem_filterMap.1 hr
  split at hf <;> cases hf
  rfl

theorem State.checkNormal_pages (s : State) (i : Line) : s.checkNormal.pub.pages i = s.pub.pages i := by
  unfold State.checkNormal
  split
  · simp [Publisher.pages_eq, recordPages_summaries]
  · rfl

/-- A maker's oldest record leaves its list. -/
theorem Publisher.setWaiting_pages {p : Publisher} {m : Maker} {r : Record} {rest : List Record} (h : p.waiting m = r :: rest)
    (i : Line) : chainPages i r.chain + (p.setWaiting m rest).pages i = p.pages i := by
  cases m <;> simp only [Publisher.waiting] at h <;> simp [Publisher.pages_eq, Publisher.setWaiting, h] <;> omega

/-- The chain in hand goes with its record into the queue (R141). -/
theorem State.Accounted.enqueueRecord {s : State} {r : Record} {hand : List (Option Chain)} (h : s.Accounted hand)
    (hr : ∀ i, chainPages i r.chain = pagesIn hand i) : (s.enqueueRecord r).Accounted [] := by
  refine h.movePub (fun _ => by rw [State.enqueueRecord_lines]) (State.enqueueRecord_handOffs _ _)
    (State.enqueueRecord_arrivals _ _) (State.enqueueRecord_pool _ _) fun i => ?_
  rw [State.enqueueRecord, State.checkFull_pages, State.checkShedding_pages]
  simp [Publisher.pages_eq, Publisher.enqueue, hr]
  omega

theorem State.stripRecord_accounted {s : State} {r : Record} (h : s.Accounted [r.chain]) : (s.stripRecord r).Accounted [] :=
  h.releaseOpt.of_same (fun _ => rfl) rfl rfl rfl rfl

theorem State.queueRecord_accounted {s : State} {r : Record} (h : s.Accounted [r.chain]) : (s.queueRecord r).Accounted [] := by
  unfold State.queueRecord
  split
  · exact h.releaseOpt.of_same (fun _ => rfl) rfl rfl rfl rfl
  · split
    · exact (State.stripRecord_accounted h).enqueueRecord fun i => by simp
    · exact h.enqueueRecord fun i => by simp

theorem Record.shedAs_chain {r : Record} {a : ArrivalRec} (h : r.shedAs = some a) : a.chain = r.chain := by
  cases r with
  | arrival b =>
    simp only [Record.shedAs, Option.ite_none_right_eq_some] at h
    obtain ⟨-, h⟩ := h
    cases h
    rfl
  | yielded | lost | summary | mark => cases h

/-- The chain of a record taken is released, or goes with it into the queue (R131, R141). -/
theorem State.publish_accounted {s : State} {r : Record} (h : s.Accounted [r.chain]) : (s.publish r).Accounted [] := by
  unfold State.publish
  split
  · exact h.releaseOpt
  · split
    next a ha =>
      split
      · rw [← Record.shedAs_chain ha] at h
        exact h.releaseOpt.of_same (fun _ => rfl) rfl rfl rfl rfl
      · exact State.queueRecord_accounted h
    · exact State.queueRecord_accounted h

theorem recordTaken_accounted (m : Maker) {s : State} (h : s.Accounted []) : (recordTaken m s).Accounted [] := by
  unfold recordTaken
  split
  · exact h
  next r rest hw =>
    refine State.publish_accounted (h.movePub (fun _ => rfl) rfl rfl rfl fun i => ?_)
    have := Publisher.setWaiting_pages hw i
    simp only [pagesIn_cons, pagesIn_nil]
    omega

theorem recordEntersFrame_accounted {s : State} (h : s.Accounted []) : (recordEntersFrame s).Accounted [] := by
  unfold recordEntersFrame
  split
  · exact h
  next r rest hq =>
    split
    · refine h.movePub (fun _ => by simp) (by simp) (by simp) (by simp) fun i => ?_
      rw [State.checkFull_pages, State.checkNormal_pages]
      simp [Publisher.pages_eq, Publisher.enter, hq]
      omega
    · exact h

theorem batchTimerExpiry_accounted {s : State} (h : s.Accounted []) : (batchTimerExpiry s).Accounted [] := by
  unfold batchTimerExpiry
  split
  · exact h.movePub (fun _ => by simp) (by simp) (by simp) (by simp) fun i => by rw [State.closingCondition_pages]
  · exact h

/-- A MARK record carries no chain (R139). -/
theorem Publisher.fire_pages (p : Publisher) (m : ArmedMark) (reading : CageTime) (late : Bool) (i : Line) :
    (p.fire m reading late).pages i = p.pages i := by
  simp [Publisher.pages_eq, Publisher.fire, Record.chain]

theorem markFire_accounted {s : State} (h : s.Accounted []) : (markFire s).Accounted [] := by
  unfold markFire
  split
  · exact h
  · split
    · exact h
    · exact h.movePub (fun _ => rfl) rfl rfl rfl fun i => by rw [Publisher.fire_pages]; rfl

theorem Publisher.takeMark_pages (p : Publisher) (m : ArmedMark) (reading : CageTime) (i : Line) :
    (p.takeMark m reading).pub.pages i = p.pages i := by
  unfold Publisher.takeMark
  split
  · rfl
  · exact Publisher.fire_pages _ _ _ _ _

theorem markRequest_accounted {s : State} (h : s.Accounted []) : (markRequest s).Accounted [] := by
  unfold markRequest
  rcases s.carryOut_cases 6 _ with e | e | ⟨q, -, -, -, e⟩ <;> rw [e]
  · exact h
  · exact h.of_same (fun _ => rfl) rfl rfl rfl rfl
  · split
    · exact h.movePub (fun _ => rfl) rfl rfl rfl fun i => congrArg _ (Publisher.takeMark_pages _ _ _ i)
    · exact h.of_same (fun _ => rfl) rfl rfl rfl rfl

theorem cancelMarkRequest_accounted {s : State} (h : s.Accounted []) : (cancelMarkRequest s).Accounted [] := by
  unfold cancelMarkRequest
  rcases s.carryOut_cases 7 _ with e | e | ⟨q, -, -, -, e⟩ <;> rw [e]
  · exact h
  · exact h.of_same (fun _ => rfl) rfl rfl rfl rfl
  · split <;> exact h.of_same (fun _ => rfl) rfl rfl rfl rfl

/-! ### The Segment Port -/

theorem State.endTx_accounted {s : State} (h : s.Accounted []) (e : TxEnding) : (s.endTx e).Accounted [] :=
  h.of_same (fun _ => by simp) (by simp) (by simp) (by simp) (by simp)

theorem segmentLinkLoss_accounted {s : State} (h : s.Accounted []) : (segmentLinkLoss s).Accounted [] := by
  unfold segmentLinkLoss
  split
  · exact (State.endTx_accounted h .cut).of_same (fun _ => rfl) rfl rfl rfl rfl
  · exact h

/-- A COMPLETE frame goes into the slot with its records (R150). -/
theorem State.refillSlot_accounted {s : State} (h : s.Accounted []) (hready : s.pub.ready = none) :
    s.refillSlot.Accounted [] := by
  unfold State.refillSlot
  split
  · exact h.movePub (fun _ => rfl) rfl rfl rfl fun i => by rw [State.closeFrame_pages hready]
  · exact h

/-- The chains of the ready frame are released as it leaves (R132, R150). -/
theorem State.sendPublication_accounted {s : State} {f : ReadyFrame} (h : s.Accounted []) (hf : s.pub.ready = some f)
    (upsets : List Upset) : (s.sendPublication f upsets).Accounted [] := by
  have hout : ({ s with pub := { s.pub with ready := none } } : State).Accounted (f.records.map Record.chain) := by
    refine h.movePub (fun _ => rfl) rfl rfl rfl fun i => ?_
    simp [Publisher.pages_eq, readyRecords, hf, recordPages]
    omega
  exact State.refillSlot_accounted ((hout.releaseAll.setCounters _ _ _).of_same (fun _ => rfl) rfl rfl rfl rfl) rfl

theorem transmitChoice_accounted (phase : Fin 16) (upsets : List Upset) {s : State} (h : s.Accounted []) :
    (transmitChoice phase upsets s).Accounted [] := by
  unfold transmitChoice
  split
  · split
    · exact h.of_same (fun _ => rfl) rfl rfl rfl rfl
    · split
      · exact h.of_same (fun _ => rfl) rfl rfl rfl rfl
      · split
        · exact h.of_same (fun _ => rfl) rfl rfl rfl rfl
        next f _ hf => exact State.sendPublication_accounted h hf upsets
        · exact h
  · exact h

/-! ### CLEAR_COUNTS and the image -/

/-- The low mark comes up to the free count (R134). -/
theorem State.clearCounts_accounted {s : State} (h : s.Accounted []) (b : Block) : (s.clearCounts b).Accounted [] := by
  cases b with
  | line i => exact h.setLine_same rfl
  | pool => exact ⟨h.pool.of_eq rfl rfl (le_refl _) fun _ => rfl, h.marked⟩
  | loader | clock | agreement | classifier | arbiter | publisher | port | requests =>
    exact h.of_same (fun _ => rfl) rfl rfl rfl rfl

theorem clearCountsRequest_accounted (part : Option Block) {s : State} (h : s.Accounted []) :
    (clearCountsRequest part s).Accounted [] := by
  rcases clearCountsRequest_cases part s with ⟨b, e⟩ | e
  · rw [e]
    exact (State.clearCounts_accounted h b).of_same (fun _ => rfl) rfl rfl rfl rfl
  · exact h.of_sameBut e rfl rfl rfl rfl rfl

theorem imageReadDone_accounted (flash : List Byte) {s : State} (h : s.Accounted []) : (imageReadDone flash s).Accounted [] := by
  unfold imageReadDone
  split
  · split
    · exact h.of_same (fun _ => rfl) rfl rfl rfl rfl
    · refine h.of_same (fun i => ?_) rfl rfl rfl rfl
      simp only [State.accept, acceptLines_get, LineRx.accepted]
      split <;> rfl
  · exact h

/-! ### Leaving service -/

/-- A frame that loses its mark loses its chain, and no other has one (R11). -/
theorem LineRx.chain_unmark {l : LineRx} (h : l.chainMarked) :
    ({ l with frame := l.frame.map FrameRec.unmark } : LineRx).chain = none := by
  rw [LineRx.chain_eq_bind]
  rw [LineRx.chainMarked_iff] at h
  cases hf : l.frame with
  | none => rfl
  | some f =>
    show f.unmark.chain = none
    unfold FrameRec.unmark
    split
    · rfl
    next hn =>
      by_contra hc
      obtain ⟨c, hc⟩ := Option.ne_none_iff_exists'.1 hc
      obtain ⟨hcls, hmark, -⟩ := h f hf c hc
      exact hn ⟨hcls, hmark⟩

/-- Power-on and leaving service: no chain stands in any place, and every page is free (R135). -/
theorem State.accounted_of_empty {s : State} (hlines : ∀ i, (s.lines.get i).chain = none) (hhandOffs : s.handOffs = [])
    (harrivals : s.arrivals = []) (hpub : s.pub.records = []) (hfree : s.pool.free = 4096) (hheld : s.pool.held = PerLine.all 0)
    (hlow : s.pool.low ≤ 4096) : s.Accounted [] := by
  have hchains : s.lines.map LineRx.chain = PerLine.all none := by
    ext1 i
    rw [PerLine.get_map, hlines, PerLine.get_all]
  refine ⟨⟨by rw [hfree, hheld]; rfl, fun i => ?_, fun i => ?_, hfree ▸ hlow⟩, fun i => ?_⟩
  · rw [hheld, PerLine.get_all, State.pages, ← PerLine.toList_map, hchains, hhandOffs, harrivals, Publisher.pages, hpub]
    rfl
  · rw [hheld, PerLine.get_all]
    exact Nat.zero_le _
  · rw [LineRx.chainMarked_iff]
    intro f hf c hc
    have := hlines i
    rw [LineRx.chain_of_frame hf, hc] at this
    cases this

/-- The chains that end with service are all there are (R11, R72, R100, R131, R135). -/
theorem State.leaveService_accounted {s : State} (h : s.Accounted []) : s.leaveService.Accounted [] := by
  have hpool := State.leaveService_pool_eq (s.poolSound_iff.2 h)
  refine State.accounted_of_empty (fun i => ?_) rfl rfl rfl (by rw [hpool]) (by rw [hpool]) ?_
  · rw [State.leaveService_lines, PerLine.get_map]
    exact LineRx.chain_unmark (h.marked i)
  · rw [hpool]
    have := h.pool.low
    have htotal := h.pool.total
    simp only [Config.poolPages] at htotal
    show s.pool.low ≤ 4096
    omega

theorem State.enterConflict_accounted {s : State} (h : s.Accounted []) : s.enterConflict.Accounted [] := by
  have hflushed : s.flushRequests.Accounted [] := h.of_same (fun _ => rfl) rfl rfl rfl rfl
  exact (State.leaveService_accounted hflushed).of_same (fun _ => rfl) rfl rfl rfl rfl

theorem State.restart_accounted {s : State} (h : s.Accounted []) (straps : Nat) : (s.restart straps).Accounted [] := by
  have hpool := State.restart_pool (s.poolSound_iff.2 h) straps
  refine State.accounted_of_empty (fun i => ?_) rfl rfl rfl (by rw [hpool]; rfl) (by rw [hpool]) (by rw [hpool]; exact le_refl _)
  rw [State.restart_line]
  exact LineRx.chain_unmark (h.marked i)

theorem beaconTaken_accounted {s : State} (h : s.Accounted []) : (beaconTaken s).Accounted [] := by
  rcases beaconTaken_cases s with e | e
  · exact h.of_sameBut e rfl rfl rfl rfl rfl
  · rw [e]
    exact State.enterConflict_accounted (h.of_same (fun _ => rfl) rfl rfl rfl rfl)

theorem dispatch_accounted (straps : Fin 16) {s : State} (h : s.Accounted []) : (dispatch straps s).Accounted [] := by
  rcases dispatch_cases straps s with e | ⟨-, port, req, e⟩
  · exact h.of_sameBut e rfl rfl rfl rfl rfl
  · rw [e]
    refine State.restart_accounted ?_ _
    exact h.of_same (fun _ => rfl) rfl rfl rfl rfl

/-! ### Every command -/

theorem effect_accounted (c : Instr) {s : State} (h : s.Accounted []) : (effect c s).Accounted [] := by
  have hkept (hlines : (touched c).lines = false) (hhandOffs : (touched c).handOffs = false)
      (harrivals : (touched c).arrivals = false) (hpool : (touched c).pool = false) (hpub : (touched c).pub = false) :
      (effect c s).Accounted [] := h.of_sameBut (effect_sameBut c s) hlines hhandOffs harrivals hpool hpub
  cases c
  case powerOn straps => exact (State.reset.poolSound_iff.1 State.reset_poolSound).of_same (fun _ => rfl) rfl rfl rfl rfl
  case linkUp i => exact lineLinkUp_accounted i h
  case linkLoss i => exact lineLinkLoss_accounted i h
  case settleTimerExpiry i => exact settleExpiry_accounted i h
  case silenceTimerExpiry i => exact silenceExpiry_accounted i h
  case startDelimiter i phase => exact startFrame_accounted i phase h
  case frameByte i b codeError => exact frameByte_accounted i b codeError h
  case frameEnd i => exact frameEnd_accounted i h
  case classifyHandOff i => exact classifyHandOff_accounted i h
  case localArrival i => exact localArrival_accounted i h
  case gapExpiry i => exact gapExpiry_accounted i h
  case peerRecord => exact peerRecord_accounted h
  case beaconTaken => exact beaconTaken_accounted h
  case recordTaken m => exact recordTaken_accounted m h
  case recordEntersFrame => exact recordEntersFrame_accounted h
  case batchTimerExpiry => exact batchTimerExpiry_accounted h
  case markFire => exact markFire_accounted h
  case transmitChoice phase upsets => exact transmitChoice_accounted phase upsets h
  case segmentTxEnd => exact State.endTx_accounted h .whole
  case segmentLinkLoss => exact segmentLinkLoss_accounted h
  case dispatch straps => exact dispatch_accounted straps h
  case clearCounts part => exact clearCountsRequest_accounted part h
  case mark => exact markRequest_accounted h
  case cancelMark => exact cancelMarkRequest_accounted h
  case imageReadDone flash => exact imageReadDone_accounted flash h
  all_goals exact hkept rfl rfl rfl rfl rfl

/-- Settles O54: each command moves chains from place to place or releases them, and the pool accounts for them on their way; none
looks at the commands that wait. -/
theorem pagesAccountedFor : Obligations.PagesAccountedFor := by
  intro s t h hstep
  refine step_keeps (P := State.PoolSound) (fun _ _ h => h) (fun c s h => ?_) hstep h
  exact (State.poolSound_iff _).2 (effect_accounted c (s.poolSound_iff.1 h))

end Sys2Proof.Machine
end

section
/-! ## The bytes of a chain in its pages, and the record read out of them (section 7.1, R123, R125, R129, R131 to R133) -/

namespace Sys2Proof.Machine

set_option Elab.async false

/-! ### Pages filled in order, 256 to a page -/

/-- The first `q` pages of what is written in order, 256 to a page. -/
def firstPages {α : Type} (q : Nat) (xs : List α) : List (List α) := (List.range q).map fun p => (xs.drop (256 * p)).take 256

section Pages

variable {α : Type} (q : Nat) (xs ys : List α)

@[simp] theorem firstPages_length : (firstPages q xs).length = q := by simp [firstPages]

theorem firstPages_succ : firstPages (q + 1) xs = firstPages q xs ++ [(xs.drop (256 * q)).take 256] := by
  simp [firstPages, List.range_succ]

theorem firstPages_take (k : Nat) : (firstPages q xs).take k = firstPages (min k q) xs := by
  rw [firstPages, ← List.map_take, List.take_range, firstPages]

/-- Pages that are full do not change with what follows them. -/
theorem firstPages_append (h : 256 * q ≤ xs.length) : firstPages q (xs ++ ys) = firstPages q xs := by
  refine List.map_congr_left fun p hp => ?_
  have hp : p < q := List.mem_range.1 hp
  rw [List.drop_append_of_le_length (by omega), List.take_append_of_le_length (by rw [List.length_drop]; omega)]

/-- The pages one after the other. -/
theorem firstPages_flatten : (firstPages q xs).flatten = xs.take (256 * q) := by
  induction q with
  | zero => simp [firstPages]
  | succ q ih =>
    rw [firstPages_succ, List.flatten_append, ih, List.flatten_singleton, show 256 * (q + 1) = 256 * q + 256 by omega,
      List.take_add]

/-- The `k`-th stands in page `k / 256` at place `k mod 256`. -/
theorem firstPages_getElem? {k : Nat} (h : k / 256 < q) : ((firstPages q xs)[k / 256]?).bind (fun p => p[k % 256]?) = xs[k]? := by
  have hplace : k % 256 < 256 := Nat.mod_lt _ (by omega)
  simp [firstPages, h, hplace, Nat.div_add_mod]

end Pages

/-! ### A chain as it is written -/

/-- A byte written after those that fill the pages before it (R123). -/
theorem firstPages_write (xs : List Cell) (b : Byte) :
    firstPages (pagesFor (xs.length + 1)) (xs ++ [Cell.write b]) =
      if xs.length % 256 = 0 then firstPages (pagesFor xs.length) xs ++ [[Cell.write b]]
      else (firstPages (pagesFor xs.length) xs).dropLast ++
        [(firstPages (pagesFor xs.length) xs).getLast?.getD [] ++ [Cell.write b]] := by
  have hfull : 256 * (xs.length / 256) ≤ xs.length := Nat.mul_div_le _ _
  have hafter : pagesFor (xs.length + 1) = xs.length / 256 + 1 := by rw [pagesFor_eq]; omega
  rw [hafter, firstPages_succ, firstPages_append _ _ _ hfull, List.drop_append_of_le_length hfull]
  split
  next h =>
    rw [show pagesFor xs.length = xs.length / 256 by rw [pagesFor_eq]; omega, List.drop_of_length_le (by omega)]
    rfl
  next h =>
    have hrest : (xs.drop (256 * (xs.length / 256))).length < 256 := by rw [List.length_drop]; omega
    rw [show pagesFor xs.length = xs.length / 256 + 1 by rw [pagesFor_eq]; omega, firstPages_succ, List.dropLast_concat,
      List.getLast?_concat, Option.getD_some, List.take_of_length_le (by simp; omega), List.take_of_length_le hrest.le]

/-- The chain that bytes written into an empty one make. -/
theorem Chain.foldl_append (i : Line) (bs : List Byte) :
    bs.foldl Chain.append { line := i } =
      { line := i, pages := firstPages (pagesFor bs.length) (bs.map Cell.write), stored := bs.length } := by
  induction bs using List.reverseRecOn with
  | nil => rfl
  | append_singleton bs b ih =>
    have hpages := firstPages_write (bs.map Cell.write) b
    rw [List.length_map] at hpages
    rw [List.foldl_concat, ih, List.map_append, List.map_singleton, List.length_append, List.length_singleton, hpages]
    rfl

@[simp] theorem Cell.write_sound (b : Byte) : (Cell.write b).sound = true := by simp [Cell.write, Cell.sound]

theorem Cell.map_byte_write (bs : List Byte) : (bs.map Cell.write).map Cell.byte = bs := by
  rw [List.map_map]
  exact List.map_id bs

/-- The pages of every byte written hold every byte. -/
theorem firstPages_pagesFor_flatten (xs : List Cell) : (firstPages (pagesFor xs.length) xs).flatten = xs := by
  rw [firstPages_flatten, List.take_of_length_le (by rw [pagesFor_eq]; omega)]

theorem Chain.trim_pages_length (c : Chain) (mode : Carriage) :
    (c.trim mode).pages.length = min (pagesFor (mode.heldLength (c.captured.getD 0))) c.pages.length := by
  simp [Chain.trim]

/-- Settles O7: releases and trims by their equations, and a chain written by the one chain it is. -/
theorem chainHoldsItsBytes : Obligations.ChainHoldsItsBytes := by
  constructor
  · intro p c mode given held
    have hheld : held = mode.heldLength (c.captured.getD 0) := by cases mode <;> rfl
    have hkeep : (held + 255) / 256 = pagesFor (mode.heldLength (c.captured.getD 0)) := by rw [hheld]; rfl
    refine ⟨rfl, rfl, ?_, rfl, ?_⟩
    · rw [hkeep, hheld]
      rfl
    · have hgone : c.pages.length - (c.trim mode).pages.length = c.pages.length - (held + 255) / 256 := by
        rw [Chain.trim_pages_length, hkeep]
        omega
      show p.release c.line (c.pages.length - (c.trim mode).pages.length) = _
      rw [hgone]
      rfl
  · intro i bs c
    have hc : c = { line := i, pages := firstPages (pagesFor bs.length) (bs.map Cell.write), stored := bs.length } :=
      Chain.foldl_append i bs
    have hflat : (firstPages (pagesFor bs.length) (bs.map Cell.write)).flatten = bs.map Cell.write := by
      have := firstPages_pagesFor_flatten (bs.map Cell.write)
      rwa [List.length_map] at this
    rw [hc]
    refine ⟨rfl, rfl, firstPages_length _ _, ?_, fun x hx => ?_, fun p hp => ?_, fun k hk => ?_⟩
    · rw [hflat, Cell.map_byte_write]
    · rw [hflat] at hx
      obtain ⟨b, -, rfl⟩ := List.mem_map.1 hx
      exact Cell.write_sound b
    · obtain ⟨q, -, rfl⟩ := List.mem_map.1 hp
      exact List.length_take_le _ _
    · rw [firstPages_getElem? _ _ (by rw [pagesFor_eq]; omega), List.getElem?_map, Option.map_map]
      exact congrFun Option.map_id _

/-! ### A record read out (R132, R133) -/

/-- What is read of a written chain once trimmed: its first held bytes (R129, R132). -/
theorem heldCells_trim (a : ArrivalRec) {c : Chain} {bs : List Byte} {captured : Nat}
    (hpages : c.pages = firstPages (pagesFor bs.length) (bs.map Cell.write)) (hcaptured : c.captured = some captured)
    (hle : captured ≤ bs.length) (mode : Carriage) :
    (Record.arrival { a with chain := some (c.trim mode) }).heldCells =
      (bs.take (mode.heldLength captured)).map Cell.write := by
  have hheld : mode.heldLength captured ≤ captured := by
    cases mode
    · exact Nat.zero_le _
    · exact Nat.min_le_left _ _
    · exact le_refl _
  have hkept : min (pagesFor (mode.heldLength captured)) (pagesFor bs.length) = pagesFor (mode.heldLength captured) := by
    simp only [pagesFor_eq]
    omega
  simp only [Record.heldCells, Record.chain, Chain.trim, Chain.heldLength, Option.getD_some, hcaptured, hpages, firstPages_take,
    hkept, firstPages_flatten, List.take_take, List.map_take]
  congr 1
  rw [pagesFor_eq]
  omega

/-- Of sound bytes those read wrong that an upset names (R133). -/
theorem faulty_of_sound {cells : List Cell} (h : ∀ x ∈ cells, x.sound = true) (us : List Upset) (k : Nat) :
    faulty us k cells = true ↔ ∃ j, j < cells.length ∧ ({ record := k, byte := j } : Upset) ∈ us := by
  rw [faulty, List.any_eq_true]
  constructor
  · rintro ⟨⟨x, j⟩, hx, hus⟩
    obtain ⟨hj, rfl⟩ := List.getElem?_eq_some_iff.1 (List.mk_mem_zipIdx_iff_getElem?.1 hx)
    exact ⟨j, hj, by simpa [h _ (List.getElem_mem hj)] using hus⟩
  · rintro ⟨j, hj, hus⟩
    exact ⟨(cells[j], j), List.mk_mem_zipIdx_iff_getElem?.2 (List.getElem?_eq_getElem hj),
      by simp [h _ (List.getElem_mem hj), hus]⟩

theorem ArrivalRec.encode_length (a : ArrivalRec) (payload : List Byte) :
    (a.encode payload).length = 64 + (payload.length + 7) / 8 * 8 := Record.encode_arrival_length a payload

/-- Settles O37: the held cells are the first held bytes as written, so only an upset makes one of them faulty. -/
theorem readOutGivesHeldBytes : Obligations.ReadOutGivesHeldBytes := by
  intro i bs captured k mode a us hcaptured whole held r
  have hheld : held = mode.heldLength captured := by cases mode <;> rfl
  have hle : held ≤ bs.length := by
    refine le_trans ?_ hcaptured
    simp only [held]
    split <;> omega
  have hcells : r.heldCells = (bs.take held).map Cell.write := by
    rw [hheld]
    have hwhole := Chain.foldl_append i bs
    exact heldCells_trim a (c := whole) (congrArg Chain.pages hwhole) rfl hcaptured mode
  have hlen : (bs.take held).length = held := List.length_take_of_le hle
  have hfaulty : faulty us k r.heldCells = true ↔ ∃ j, j < held ∧ ({ record := k, byte := j } : Upset) ∈ us := by
    rw [hcells, faulty_of_sound (fun x hx => by obtain ⟨b, -, rfl⟩ := List.mem_map.1 hx; exact Cell.write_sound b),
      List.length_map, hlen]
  refine ⟨fun hno => ?_, fun hsome => ?_⟩
  · have hread : r.readOut us k = a.encode (bs.take held) := by
      rw [Record.readOut, if_neg (mt hfaulty.1 fun ⟨j, hj, hus⟩ => hno j hj hus), hcells, Cell.map_byte_write]
      rfl
    exact ⟨hread, by rw [hread, ArrivalRec.encode_length, hlen]⟩
  · have hread : r.readOut us k = ArrivalRec.encode { a with payloadFault := true } [] := by
      rw [Record.readOut, if_pos (hfaulty.2 hsome)]
      rfl
    exact ⟨hread, by rw [hread, ArrivalRec.encode_length]; rfl⟩

end Sys2Proof.Machine
end

section
/-! ## The ready frame leaves (R132, R133, R148, R150, R154) -/

namespace Sys2Proof.Machine

set_option Elab.async false

theorem transmitChoice_publication {s : State} {f : ReadyFrame} (hlink : s.port.link = .up) (htx : s.port.tx = none)
    (p : Fin 16) (us : List Upset) (hdue : s.agr.beaconDue = false) (halert : s.req.alertPending = false)
    (hresponses : s.req.responses = []) (hready : s.pub.ready = some f) : transmitChoice p us s = s.sendPublication f us := by
  simp [transmitChoice, hlink, htx, hdue, halert, hresponses, hready]

/-- A release counts no store fault. -/
theorem Pool.releaseAll_storeFaults (p : Pool) (cs : List (Option Chain)) : (p.releaseAll cs).storeFaults = p.storeFaults := by
  rw [Pool.releaseAll_eq]

theorem ReqHandler.raiseIf_count (r : ReqHandler) (n : Nat) (c : Condition) :
    r.raiseIf (decide (0 < n)) c = if n = 0 then r else r.raise c := by
  cases n <;> rfl

/-- The station with the ready frame gone: read out onto the wire, its chains released, its store faults counted and raised. -/
def State.publicationSent (s : State) (f : ReadyFrame) (us : List Upset) : State :=
  let bad := faultCount us f.records
  { s with
    port := { s.port with tx := some (s.buildFrame .publication f.station f.identity (f.content us)) },
    pool := { s.pool.releaseAll (f.records.map Record.chain) with storeFaults := bumpBy bad s.pool.storeFaults },
    pub := { s.pub with ready := none },
    req := if bad = 0 then s.req else s.req.raise .storeFault }

theorem State.sendPublication_eq (s : State) (f : ReadyFrame) (us : List Upset) :
    s.sendPublication f us = (s.publicationSent f us).refillSlot := by
  simp only [State.sendPublication, Pool.releaseAll_storeFaults, ReqHandler.raiseIf_count]
  rfl

theorem State.refillSlot_of_complete {s : State} (h : s.pub.asmState = .complete) : s.refillSlot = s.closeFrame := if_pos h

theorem State.refillSlot_of_not_complete {s : State} (h : s.pub.asmState ≠ .complete) : s.refillSlot = s := if_neg h

/-- Settles O36: the choice falls on the ready frame; the slot it leaves is refilled by a COMPLETE frame and by no other. -/
theorem publicationLeaves : Obligations.PublicationLeaves := by
  intro p us s f hlink htx hdue halert hresponses hready bad pool head t
  have hexec : exec (.transmitChoice p us) s = .next (s.publicationSent f us).refillSlot := by
    rw [exec_eq_effect, effect, transmitChoice_publication hlink htx p us hdue halert hresponses hready,
      State.sendPublication_eq]
  have hcontent : f.content us = head ++ (f.records.zipIdx.map (fun x => x.1.readOut us x.2)).flatten := f.content_eq us
  have ht : s.publicationSent f us = t := by
    rw [State.publicationSent, hcontent]
    rfl
  rw [ht] at hexec
  refine ⟨fun hasm => ?_, fun hasm => ?_⟩
  · rw [hexec, State.refillSlot_of_not_complete (s := t) hasm]
  · rw [hexec, State.refillSlot_of_complete (s := t) hasm]
    rfl

end Sys2Proof.Machine
end

section
/-! ## A record taken by the Publisher: discarded, shed, dropped, stripped or enqueued (R141 to R144, R146) -/

namespace Sys2Proof.Machine

set_option Elab.async false

/-! ### The records handed over and not yet taken (section 8.3) -/

@[simp] theorem Publisher.setWaiting_state (p : Publisher) (m : Maker) (rs : List Record) :
    (p.setWaiting m rs).state = p.state := by cases m <;> rfl

/-- The oldest record of a maker is published, with the maker's others left waiting (R141). -/
theorem recordTaken_of_waiting {m : Maker} {s : State} {r : Record} {rest : List Record} (h : s.pub.waiting m = r :: rest) :
    recordTaken m s = State.publish { s with pub := s.pub.setWaiting m rest } r := by
  simp only [recordTaken, h]

/-! ### The shed counts (R144, R145) -/

theorem Verdict.isShed_iff (v : Verdict) :
    v.isShed = true ↔ v = .duplicate ∨ v = .keepalive ∨ v = .stale ∨ v = .stray := by
  cases v <;> decide

theorem Record.shedAs_arrival {a : ArrivalRec} (h : a.verdict.isShed = true) : (Record.arrival a).shedAs = some a := if_pos h

theorem Record.shedAs_eq_none {r : Record} (h : ∀ a, r = .arrival a → a.verdict.isShed = false) : r.shedAs = none := by
  cases r with
  | arrival a => simp [Record.shedAs, h a rfl]
  | yielded | lost | summary | mark => rfl

theorem ShedCounts.clear_iff (c : ShedCounts) :
    c.clear = true ↔ c.duplicate = 0 ∧ c.keepalive = 0 ∧ c.stale = 0 ∧ c.stray = 0 := by
  simp [ShedCounts.clear, and_assoc]

theorem ShedCounts.datesWith_eq (c : ShedCounts) (date : CageTime) :
    c.datesWith date = (if c.duplicate = 0 ∧ c.keepalive = 0 ∧ c.stale = 0 ∧ c.stray = 0 then date
      else (c.dates.map Prod.fst).getD date, date) := by
  simp only [ShedCounts.datesWith, ShedCounts.clear_iff]
  cases c.dates <;> rfl

/-- A record shed raises the count of its verdict alone, and its date is kept (R144). -/
theorem ShedCounts.count_eq (c : ShedCounts) {v : Verdict} (h : v.isShed = true) (date : CageTime) :
    c.count v date =
      { duplicate := if v = .duplicate then bump c.duplicate else c.duplicate,
        keepalive := if v = .keepalive then bump c.keepalive else c.keepalive,
        stale := if v = .stale then bump c.stale else c.stale,
        stray := if v = .stray then bump c.stray else c.stray,
        dates := some (c.datesWith date) } := by
  rcases v.isShed_iff.1 h with rfl | rfl | rfl | rfl <;> rfl

/-- The slot of the feed that a record names counts it, and no other (R144). -/
theorem shedInto_eq (feeds : List FeedSlot) (a : ArrivalRec) :
    shedInto feeds a =
      feeds.map (fun f => if a.feed = some f.cfg.feed then { f with shed := f.shed.count a.verdict a.date } else f) := by
  unfold shedInto
  split
  next n hfeed => simp [modifyFeed, hfeed, eq_comm]
  next hfeed => simp [hfeed]

/-! ### The steps of R141 -/

section Taking

variable {s : State} {r : Record}

/-- Step 1: outside SERVING the record is discarded. -/
theorem State.publish_out_of_service (h : s.loader.state ≠ .serving) (r : Record) :
    s.publish r = { s with pool := s.pool.releaseOpt r.chain } := if_pos h

/-- Step 2: in SHEDDING a record of a shed verdict is shed. -/
theorem State.publish_shed {a : ArrivalRec} (h : s.loader.state = .serving) (hstate : s.pub.state = .shedding)
    (hr : r.shedAs = some a) : s.publish r = s.shedRecord a := by
  simp [State.publish, h, hr, hstate]

/-- Past step 2: a record taken in NORMAL, or of no shed verdict. -/
theorem State.publish_not_shed (h : s.loader.state = .serving) (hkeep : s.pub.state = .normal ∨ r.shedAs = none) :
    s.publish r = s.queueRecord r := by
  rcases hkeep with hstate | hr
  · simp only [State.publish, h, hstate]
    cases r.shedAs <;> rfl
  · simp [State.publish, h, hr]

/-- Step 3: at a full queue the record is dropped. -/
theorem State.queueRecord_at_limit (h : s.pub.queue.length = 1024) (r : Record) : s.queueRecord r = s.dropRecord r := if_pos h

/-- Step 5 without step 4: a record taken in NORMAL, or with no payload, is enqueued as it is. -/
theorem State.queueRecord_whole (h : s.pub.queue.length ≠ 1024) (hwhole : s.pub.state = .normal ∨ r.hasPayload = false) :
    s.queueRecord r = s.enqueueRecord r := by
  have hdepth : s.pub.depth ≠ Config.queueLimit := h
  have hkeep : ¬ (s.pub.state = .shedding ∧ r.hasPayload = true) := by
    rcases hwhole with hstate | hr
    · simp [hstate]
    · simp [hr]
  rw [State.queueRecord, if_neg hdepth, if_neg hkeep]

/-- Steps 4 and 5: in SHEDDING a payload is stripped as its record is enqueued. -/
theorem State.queueRecord_stripped (h : s.pub.queue.length ≠ 1024) (hstate : s.pub.state = .shedding)
    (hr : r.hasPayload = true) : s.queueRecord r = (s.stripRecord r).enqueueRecord r.stripped := by
  have hdepth : s.pub.depth ≠ Config.queueLimit := h
  rw [State.queueRecord, if_neg hdepth, if_pos ⟨hstate, hr⟩]

end Taking

/-- Settles O29: the steps of R141 in their order, each by its equation. -/
theorem recordTakenByState : Obligations.RecordTakenByState := by
  intro m s r rest hwaiting p shedVerdict counted crossed
  let t : State := { s with pub := p }
  have hexec : exec (.recordTaken m) s = .next (t.publish r) := by
    rw [exec_eq_effect, effect, recordTaken_of_waiting hwaiting]
  have hstate : t.pub.state = s.pub.state := Publisher.setWaiting_state _ _ _
  rw [hexec]
  refine ⟨fun hout => ?_, fun hserving hshed a ha hverdict => ?_, fun hserving hkeep => ?_⟩
  · rw [State.publish_out_of_service (s := t) hout]
  · subst ha
    obtain ⟨b, hb, hb_shed⟩ := hverdict
    cases hb
    have hisShed : a.verdict.isShed = true := a.verdict.isShed_iff.2 hb_shed
    have hfeeds : shedInto s.feeds a =
        s.feeds.map (fun f => if a.feed = some f.cfg.feed then { f with shed := counted a f.shed } else f) := by
      simp only [shedInto_eq, ShedCounts.count_eq _ hisShed, ShedCounts.datesWith_eq, counted]
    rw [State.publish_shed (s := t) hserving (hstate.trans hshed) (Record.shedAs_arrival hisShed), ← hfeeds]
    rfl
  · have hqueue : t.publish r = t.queueRecord r := by
      refine State.publish_not_shed hserving (hkeep.imp hstate.trans fun hnot => Record.shedAs_eq_none fun a ha => ?_)
      rw [Bool.eq_false_iff, Ne, Verdict.isShed_iff]
      exact fun hverdict => hnot ⟨a, ha, hverdict⟩
    rw [hqueue]
    refine ⟨fun hfull => ?_, fun hroom hwhole => ?_, fun hroom hshed a ha hheld => ?_⟩
    · rw [State.queueRecord_at_limit (s := t) hfull]
      rfl
    · rw [State.queueRecord_whole (s := t) hroom (hwhole.imp_left hstate.trans)]
      rfl
    · subst ha
      have hpayload : (Record.arrival a).hasPayload = true := decide_eq_true hheld
      rw [State.queueRecord_stripped (s := t) hroom (hstate.trans hshed) hpayload]
      rfl

end Sys2Proof.Machine
end

section
/-! ## The frame under assembly: its size, the records that enter it, and its closing (R137, R140, R145, R147 to R149) -/

namespace Sys2Proof.Machine

set_option Elab.async false

/-! ### Encoded lengths (R140) -/

/-- The largest record, an ARRIVAL of 1,532 held bytes, is 1,600 bytes. -/
theorem Record.encodedLength_le {r : Record} (h : ∀ a, r = .arrival a → a.heldLength ≤ 1532) : r.encodedLength ≤ 1600 := by
  cases r with
  | arrival a =>
    have := h a rfl
    rw [Record.encodedLength, roundUp8]
    omega
  | yielded | lost | summary | mark => rw [Record.encodedLength]; omega

theorem Publisher.fits_iff (p : Publisher) (r : Record) :
    p.fits r = true ↔ p.asm.length < 16 ∧ (p.asm.map Record.encodedLength).sum + r.encodedLength ≤ 8960 := by
  simp only [Publisher.fits, Bool.and_eq_true, decide_eq_true_eq]
  rfl

/-- Only held bytes can be read wrong (R133). -/
theorem length_pos_of_faulty {us : List Upset} {k : Nat} {cells : List Cell} (h : faulty us k cells = true) : 0 < cells.length := by
  cases cells with
  | nil => simp [faulty] at h
  | cons c cells => simp

/-- A faulted record goes out without the payload it was reckoned with (R133, R140). -/
theorem Record.readOut_length_lt {r : Record} {us : List Upset} {k : Nat} (h : faulty us k r.heldCells = true) :
    (r.readOut us k).length < r.encodedLength := by
  have hcells := length_pos_of_faulty h
  cases r with
  | arrival a =>
    have hheld := a.heldCells_length_le
    rw [Record.readOut, if_pos h, Record.markFaulty, Record.encode_arrival_length, Record.encodedLength, roundUp8,
      List.length_nil]
    omega
  | yielded | lost | summary | mark => exact absurd hcells (lt_irrefl 0)

/-- Settles O33: the lengths of R140's table, and a read-out that keeps or sheds the payload reckoned. -/
theorem encodedLengths : Obligations.EncodedLengths := by
  refine ⟨fun _ => rfl, fun _ _ _ _ _ _ => rfl, fun _ _ _ _ _ => rfl, fun _ _ => rfl, fun _ _ _ _ => rfl, fun _ => rfl,
    fun a ha => ?_, fun p r hasm hheld => ?_, fun r us k => ⟨r.readOut_length_le us k, Record.readOut_length_lt⟩⟩
  · rw [Record.encodedLength, ha]
    rfl
  · have hlen := Record.encodedLength_le hheld
    refine ⟨hlen, (p.fits_iff r).2 ?_⟩
    simp only [hasm, List.length_nil, List.map_nil, List.sum_nil]
    omega

/-! ### The closing conditions (R148, R149) -/

section Closing

variable {s : State}

theorem State.closingCondition_of_free (h : s.pub.ready = none) : s.closingCondition = s.closeFrame := if_pos h

theorem State.closingCondition_of_occupied (h : s.pub.ready ≠ none) :
    s.closingCondition = { s with pub := { s.pub with asmState := .complete, batchTimer := none } } := if_neg h

theorem State.checkFull_of_full (h : s.pub.full = true) : s.checkFull = s.closingCondition := if_pos h

theorem State.checkFull_of_not_full (h : ¬ s.pub.full = true) : s.checkFull = s := if_neg h

/-- The two conditions of R148 that the contents bring: 16 records, or a head that does not fit by its size. -/
theorem Publisher.full_iff {p : Publisher} (hfilling : p.asmState = .filling) :
    p.full = true ↔ 16 ≤ p.asm.length ∨
      ∃ r rest, p.queue = r :: rest ∧ 8960 < (p.asm.map Record.encodedLength).sum + r.encodedLength := by
  rw [Publisher.full, Bool.and_eq_true, Bool.or_eq_true, decide_eq_true_eq, decide_eq_true_eq, eq_true hfilling, true_and]
  refine or_congr Iff.rfl ?_
  cases p.queue with
  | nil => simp
  | cons r rest =>
    rw [decide_eq_true_eq]
    exact ⟨fun h => ⟨r, rest, rfl, h⟩, fun ⟨_, _, e, h⟩ => by cases e; exact h⟩

theorem batchTimerExpiry_of_due {d : Nat} (hfilling : s.pub.asmState = .filling) (htimer : s.pub.batchTimer = some d)
    (hdue : d ≤ s.clock.tick) : batchTimerExpiry s = s.closingCondition :=
  if_pos ⟨hfilling, by simpa [due, htimer] using hdue⟩

theorem batchTimerExpiry_of_not_due {d : Nat} (htimer : s.pub.batchTimer = some d) (hnot : s.clock.tick < d) :
    batchTimerExpiry s = s :=
  if_neg fun ⟨_, hdue⟩ => by
    simp only [due, htimer, decide_eq_true_eq] at hdue
    omega

end Closing

/-- Settles O32: each condition leads to the one closing, which looks at the ready slot. -/
theorem closingConditions : Obligations.ClosingConditions := by
  refine ⟨fun s hnot => State.checkFull_of_not_full (mt Publisher.full_filling hnot), fun s hfilling => ?_⟩
  intro closed complete met
  have hfull : s.pub.full = true ↔ met := Publisher.full_iff hfilling
  refine ⟨fun d htimer => ⟨fun hnot => ?_, fun hdue hready => ?_, fun hdue hready => ?_⟩, fun hnot => ?_, fun hmet hready => ?_,
    fun hmet hready => ?_⟩
  · rw [exec_eq_effect, effect, batchTimerExpiry_of_not_due htimer hnot]
  · rw [exec_eq_effect, effect, batchTimerExpiry_of_due hfilling htimer hdue, State.closingCondition_of_free hready]
    rfl
  · rw [exec_eq_effect, effect, batchTimerExpiry_of_due hfilling htimer hdue, State.closingCondition_of_occupied hready]
  · exact State.checkFull_of_not_full (mt hfull.1 hnot)
  · rw [State.checkFull_of_full (hfull.2 hmet), State.closingCondition_of_free hready]
    rfl
  · rw [State.checkFull_of_full (hfull.2 hmet), State.closingCondition_of_occupied hready]

/-! ### A record enters the frame (R145, R147) -/

theorem State.batchTicks_of_config {s : State} {cfg : ImageCfg} (h : s.loader.config = some cfg) :
    s.batchTicks = cfg.batchUs * 250 := by
  simp only [State.batchTicks, h]
  rfl

theorem summaries_eq (feeds : List FeedSlot) :
    summaries feeds = feeds.filterMap (fun f =>
      if f.shed.duplicate = 0 ∧ f.shed.keepalive = 0 ∧ f.shed.stale = 0 ∧ f.shed.stray = 0 then none
      else some (Record.summary f.cfg.feed f.shed)) := by
  simp only [summaries, ShedCounts.clear_iff]

section Entering

variable {s : State} {r : Record} {rest : List Record}

theorem recordEntersFrame_of_fits (hqueue : s.pub.queue = r :: rest) (hopen : s.pub.asmState ≠ .complete)
    (hfits : s.pub.fits r = true) : recordEntersFrame s =
      (State.checkNormal { s with pub := s.pub.enter r rest (s.clock.tick + s.batchTicks) }).checkFull := by
  simp only [recordEntersFrame, hqueue]
  exact if_pos ⟨hopen, hfits⟩

theorem recordEntersFrame_of_stays (hqueue : s.pub.queue = r :: rest)
    (hstays : s.pub.asmState = .complete ∨ ¬ s.pub.fits r = true) : recordEntersFrame s = s := by
  simp only [recordEntersFrame, hqueue]
  exact if_neg fun h => hstays.elim h.1 fun hnot => hnot h.2

theorem State.checkNormal_of_not (h : ¬ (s.pub.queue.length = 256 ∧ s.pub.state = .shedding)) : s.checkNormal = s := if_neg h

/-- The return to NORMAL: the SUMMARY records join the queue, and the counts they carry are zeroed (R145). -/
theorem State.checkNormal_of_fallen (hdepth : s.pub.queue.length = 256) (hstate : s.pub.state = .shedding) :
    s.checkNormal = { s with
      feeds := s.feeds.map (fun f => { f with shed := {} }),
      pub := { s.pub with
        state := .normal, queue := s.pub.queue ++ summaries s.feeds,
        counts := { s.pub.counts with queued := bumpBy (summaries s.feeds).length s.pub.counts.queued,
                                      summaries := bumpBy (summaries s.feeds).length s.pub.counts.summaries } } } :=
  if_pos ⟨hdepth, hstate⟩

end Entering

/-- Settles O31: the head enters when it fits, and the depth it leaves decides the return to NORMAL. -/
theorem Publisher.recordEntersFrame : Obligations.RecordEntersFrame := by
  refine ⟨fun s cfg => State.batchTicks_of_config, fun s r rest hqueue => ?_⟩
  intro fits timer p sums
  have hfits : s.pub.fits r = true ↔ fits := s.pub.fits_iff r
  have henters (hopen : s.pub.asmState ≠ .complete) (hfit : fits) :
      exec .recordEntersFrame s = .next (State.checkNormal { s with pub := p }).checkFull := by
    rw [exec_eq_effect, effect, recordEntersFrame_of_fits hqueue hopen (hfits.2 hfit)]
    rfl
  refine ⟨fun hstays => ?_, fun hopen hfit hnot => ?_, fun hopen hfit hdepth hstate => ?_⟩
  · rw [exec_eq_effect, effect, recordEntersFrame_of_stays hqueue (hstays.imp_right (mt hfits.1))]
  · rw [henters hopen hfit, State.checkNormal_of_not (s := { s with pub := p }) hnot]
  · rw [henters hopen hfit, State.checkNormal_of_fallen (s := { s with pub := p }) hdepth hstate, summaries_eq]

end Sys2Proof.Machine
end

section
/-! ## MARK, CANCEL_MARK and the firing of the armed mark (R151 to R153, R179) -/

namespace Sys2Proof.Machine

set_option Elab.async false

theorem CageTime.before_iff (a b : CageTime) : a.before b = true ↔
    a.sec < b.sec ∨ (a.sec = b.sec ∧ (a.ns < b.ns ∨ (a.ns = b.ns ∧ a.quarter < b.quarter))) := by
  simp [CageTime.before]

/-! ### The firing (R152) -/

section Firing

variable {s : State} {m : ArmedMark}

theorem markFire_of_none (h : s.pub.mark = none) : markFire s = s := by
  simp only [markFire, h]

theorem markFire_of_before (h : s.pub.mark = some m) (hbefore : s.clock.reading.before m.target = true) : markFire s = s := by
  simp only [markFire, h]
  exact if_pos hbefore

theorem markFire_of_reached (h : s.pub.mark = some m) (hreached : s.clock.reading.before m.target = false) :
    markFire s = { s with pub := { s.pub with
      mark := none,
      fromMarks := s.pub.fromMarks ++ [.mark m.tag m.target s.clock.reading false],
      counts := { s.pub.counts with marksFired := bump s.pub.counts.marksFired } } } := by
  simp only [markFire, h]
  exact if_neg (Bool.eq_false_iff.1 hreached)

end Firing

/-! ### The requests (R151, R153, R179) -/

section Requests

variable {s : State} {q : Request} {rest : List Request} (hserving : s.loader.state = .serving) (hq : s.req.queue = q :: rest)

/-- An answer that counts no refusal, into a response queue with room (R170, R172). -/
theorem State.finish_uncounted_of_room (hq : s.req.queue = q :: rest) (hroom : s.req.responses.length < 4) {res : Result}
    (hstate : res ≠ .wrongState) (hargument : res ≠ .badArgument) (data : List Byte) :
    s.finish res data = { s with req := { s.req with
      queue := rest, parts := [], responses := s.req.responses ++ [q.answer res data] } } := by
  rw [State.finish, ReqHandler.finish_of_room hq hroom, if_neg hstate, if_neg hargument]

include hserving hq

/-- SERVING permits every request (R171). -/
theorem State.carryOut_in_serving {code : Nat} (hcode : q.code = code) (act : Request → State) : s.carryOut code act = act q :=
  State.carryOut_of_head hq hcode (by rw [hserving]; rfl) act

/-- A target above the reading is armed, in the place of a mark already armed (R151). -/
theorem markRequest_armed (hcode : q.code = 6) (hvalid : (timeAt q.args 0).valid = true)
    (hbefore : s.clock.reading.before (timeAt q.args 0) = true) :
    markRequest s = State.finish
      { s with pub := { s.pub with mark := some { target := timeAt q.args 0, tag := natAt q.args 10 4 } } }
      (if s.pub.mark = none then .ok else .replaced) [1] := by
  rw [markRequest, State.carryOut_in_serving hserving hq hcode, if_pos hvalid]
  simp only [Publisher.takeMark, hbefore, if_true, MarkTaken.result, MarkTaken.data]
  cases s.pub.mark <;> rfl

/-- A target at or below the reading fires at once, late; a mark already armed is gone without a record (R151). -/
theorem markRequest_late (hcode : q.code = 6) (hvalid : (timeAt q.args 0).valid = true)
    (hreached : s.clock.reading.before (timeAt q.args 0) = false) :
    markRequest s = State.finish
      { s with pub := { s.pub with
          mark := none,
          fromMarks := s.pub.fromMarks ++ [.mark (natAt q.args 10 4) (timeAt q.args 0) s.clock.reading true],
          counts := { s.pub.counts with
            marksFired := bump s.pub.counts.marksFired, marksLate := bump s.pub.counts.marksLate } } }
      (if s.pub.mark = none then .ok else .replaced) [2] := by
  rw [markRequest, State.carryOut_in_serving hserving hq hcode, if_pos hvalid]
  simp only [Publisher.takeMark, hreached, MarkTaken.result, MarkTaken.data]
  cases s.pub.mark <;> rfl

theorem markRequest_refused (hcode : q.code = 6) (hvalid : (timeAt q.args 0).valid = false) :
    markRequest s = s.finish .badArgument [] := by
  rw [markRequest, State.carryOut_in_serving hserving hq hcode, if_neg (Bool.eq_false_iff.1 hvalid)]

theorem cancelMarkRequest_of_none (hcode : q.code = 7) (hmark : s.pub.mark = none) :
    cancelMarkRequest s = s.finish .noneArmed [] := by
  rw [cancelMarkRequest, State.carryOut_in_serving hserving hq hcode, hmark]
  rfl

theorem cancelMarkRequest_of_armed (hcode : q.code = 7) (hmark : s.pub.mark ≠ none) :
    cancelMarkRequest s = State.finish { s with pub := { s.pub with mark := none } } .ok [] := by
  rw [cancelMarkRequest, State.carryOut_in_serving hserving hq hcode, if_pos (Option.isSome_iff_ne_none.2 hmark)]

end Requests

/-- Settles O34: each request by its case, and each order by two commands, the second on the state the first leaves. -/
theorem markRequestsAndOrders : Obligations.MarkRequestsAndOrders := by
  refine ⟨CageTime.before_iff, fun s m hmark => ⟨fun hbefore => ?_, fun hreached => ?_⟩,
    fun s q rest hserving hq hroom => ?_⟩
  · rw [exec_eq_effect, effect, markFire_of_before hmark hbefore]
  · rw [exec_eq_effect, effect, markFire_of_reached hmark hreached]
  intro answer target asked late taken
  have hanswer (p : Publisher) {res : Result} (hstate : res ≠ .wrongState) (hargument : res ≠ .badArgument) (data : List Byte) :
      State.finish { s with pub := p } res data = { s with pub := p, req := answer res data } :=
    State.finish_uncounted_of_room (s := { s with pub := p }) hq hroom hstate hargument data
  have htaken : taken ≠ .wrongState ∧ taken ≠ .badArgument := by
    simp only [taken]
    split <;> decide
  refine ⟨fun hcode hvalid => ⟨fun hbefore => ?_, fun hreached => ?_⟩, fun hcode hvalid => ?_, fun hcode hmark => ?_,
    fun hcode hmark => ⟨?_, ?_⟩, fun m hmark hreached => ?_⟩
  · rw [exec_eq_effect, effect, markRequest_armed hserving hq hcode hvalid hbefore]
    exact congrArg _ (hanswer _ htaken.1 htaken.2 [1])
  · rw [exec_eq_effect, effect, markRequest_late hserving hq hcode hvalid hreached]
    exact congrArg _ (hanswer late htaken.1 htaken.2 [2])
  · rw [exec_eq_effect, effect, markRequest_refused hserving hq hcode hvalid, State.finish_badArgument_of_room hq hroom]
    rfl
  · rw [exec_eq_effect, effect, cancelMarkRequest_of_none hserving hq hcode hmark]
    exact congrArg _ (hanswer s.pub (by decide) (by decide) [])
  · rw [exec_eq_effect, effect, cancelMarkRequest_of_armed hserving hq hcode hmark]
    exact congrArg _ (hanswer _ (by decide) (by decide) [])
  · rw [exec_eq_effect, effect, markFire_of_none rfl]
  · intro fired
    refine ⟨?_, fun hcode => ?_, fun hcode hvalid hbefore => ?_⟩
    · rw [exec_eq_effect, effect, markFire_of_reached hmark hreached]
    · rw [exec_eq_effect, effect, cancelMarkRequest_of_none (s := { s with pub := fired }) hserving hq hcode rfl]
      exact congrArg _ (hanswer fired (by decide) (by decide) [])
    · rw [exec_eq_effect, effect, markRequest_armed (s := { s with pub := fired }) hserving hq hcode hvalid hbefore,
        if_pos rfl]
      exact congrArg _ (hanswer _ (by decide) (by decide) [1])

end Sys2Proof.Machine
end

section
/-! ## The head of the receive queue leaves by its kind (R164, R165, sections 12.2, 12.3, 12.5) -/

namespace Sys2Proof.Machine

set_option Elab.async false

/-! ### Whether the head leaves (R164) -/

/-- The head waits for the Agreement Unit, or, where it is of kind PUBLICATION, for the Sequence Arbiter. -/
theorem State.dispatchReady_iff (s : State) (bs : List Byte) :
    s.dispatchReady bs = true ↔ ¬ (s.agr.inbox ≠ none ∨ (frameKind bs = 2 ∧ s.arbiter.frame ≠ none)) := by
  rw [State.dispatchReady, Bool.and_eq_true, Bool.or_eq_true, decide_eq_true_iff, Option.isNone_iff_eq_none,
    Option.isNone_iff_eq_none, not_or, not_not, not_and_or, not_not]
  rfl

section Head

variable {s : State} {f : RxFrame} {rest : List RxFrame} (hqueue : s.port.rxQueue = f :: rest) (straps : Fin 16)

include hqueue

theorem dispatch_of_waits (h : ¬ s.dispatchReady f.bytes = true) : dispatch straps s = s := by
  simp only [dispatch, hqueue, if_neg h]

theorem dispatch_of_ready (h : s.dispatchReady f.bytes = true) :
    dispatch straps s = (s.headGone rest).deliver f (readFrame f.bytes) straps := by
  simp only [dispatch, hqueue, if_pos h, State.headGone]

end Head

/-! ### A content read (sections 12.3, 12.5) -/

theorem readBeacon_of_unfit {c : List Byte} (h : c.length < 24 ∨ 15 < natAt c 3 1 ∨ c.length < 24 + 24 * natAt c 3 1)
    (bs : List Byte) : readBeacon bs c = none := if_pos h

/-- A content that holds the echo entries it counts, 15 at most, is read field by field. -/
theorem readBeacon_of_fit {c : List Byte} (hlen : 24 + 24 * natAt c 3 1 ≤ c.length) (hcount : natAt c 3 1 ≤ 15)
    (bs : List Byte) :
    readBeacon bs c = some {
      station := frameStation bs, identity := frameIdentity bs, state := natAt c 0 1, agreement := natAt c 1 1,
      anchor := natAt c 2 1, spread := natAt c 8 4, number := natAt c 4 4, departure := timeAt c 12,
      echoes := readEchoes c (natAt c 3 1) } := if_neg (by omega)

/-- How many bytes of arguments each request takes (section 12.5). -/
theorem argumentBytes_eq (code : Nat) : argumentBytes code =
    if code = 2 then 2 else if code = 5 then 8 else if code = 6 then 14 else if code = 8 ∨ code = 9 then 4 else 0 := by
  unfold argumentBytes
  split <;> grind

theorem readRequest_of_short {c : List Byte} (h : c.length < 12 + argumentBytes (natAt c 1 1)) : readRequest c = none :=
  if_pos (.inr h)

theorem readRequest_of_fit {c : List Byte} (h : 12 + argumentBytes (natAt c 1 1) ≤ c.length) :
    readRequest c = some (natAt c 0 1, {
      code := natAt c 1 1, requester := natAt c 2 6, tag := natAt c 8 4, args := slice c 12 (argumentBytes (natAt c 1 1)) }) :=
  if_neg (by omega)

/-! ### The head read by its kind (R165) -/

/-- A content length past the frame's end is malformed, whatever the kind (log 9). -/
theorem readFrame_of_cut {bs : List Byte} (h : frameContent bs = none) : readFrame bs = .malformed := by
  simp only [readFrame, h]

section Kind

variable {bs c : List Byte} (hcontent : frameContent bs = some c)

include hcontent

theorem readFrame_of_beacon (hkind : frameKind bs = 1) :
    readFrame bs = (readBeacon bs c).elim .malformed .beacon := by
  simp only [readFrame, hcontent, hkind]
  cases readBeacon bs c <;> rfl

theorem readFrame_of_short_publication (hkind : frameKind bs = 2) (hlen : c.length < 16) : readFrame bs = .malformed := by
  simp only [readFrame, hcontent, hkind, if_pos hlen]

theorem readFrame_of_request (hkind : frameKind bs = 3) :
    readFrame bs = (readRequest c).elim .malformed (fun r => .request r.1 r.2) := by
  simp only [readFrame, hcontent, hkind]
  cases readRequest c <;> rfl

theorem readFrame_of_reply (hkind : frameKind bs = 4 ∨ frameKind bs = 5) : readFrame bs = .foreignReply := by
  rcases hkind with hkind | hkind <;> simp only [readFrame, hcontent, hkind]

theorem readFrame_of_unknown (hkind : frameKind bs = 0 ∨ 5 < frameKind bs) : readFrame bs = .unknownKind := by
  simp only [readFrame, hcontent]
  split
  case h_6 => rfl
  all_goals omega

end Kind

/-- Settles O40: the head waits, or it is delivered as what its kind and length make it. -/
theorem dispatchByKind : Obligations.DispatchByKind := by
  intro straps s f rest hqueue t kind n c k after malformed args waits
  have hready : s.dispatchReady f.bytes = true ↔ ¬ waits := s.dispatchReady_iff f.bytes
  have hleaves {d : Dispatched} (hnow : ¬ waits) (hread : readFrame f.bytes = d) :
      exec (.dispatch straps) s = .next ((s.headGone rest).deliver f d straps) := by
    rw [exec_eq_effect, effect, dispatch_of_ready hqueue straps (hready.2 hnow), hread]
  refine ⟨fun hwaits => ?_, fun hnow hcut => ?_, fun hnow hle => ?_⟩
  · rw [exec_eq_effect, effect, dispatch_of_waits hqueue straps (mt hready.1 (not_not.2 hwaits))]
  · exact hleaves hnow (readFrame_of_cut (if_pos hcut))
  have hcontent : frameContent f.bytes = some c := if_neg (Nat.not_lt.2 hle)
  have hlen : c.length = n := slice_length f.bytes (26 + t) n hle
  have hargs : argumentBytes (natAt c 1 1) = args := argumentBytes_eq _
  refine ⟨fun hkind hunfit => ?_, fun hkind hfit hcount => ?_, fun hkind hshort => ?_, fun hkind hshort => ?_,
    fun hkind hfit hown hall => ?_, fun hkind => ?_, fun hkind => ?_⟩
  · rw [← hlen] at hunfit
    exact hleaves hnow ((readFrame_of_beacon hcontent hkind).trans (by rw [readBeacon_of_unfit hunfit]))
  · rw [← hlen] at hfit
    exact hleaves hnow ((readFrame_of_beacon hcontent hkind).trans (by rw [readBeacon_of_fit hfit hcount]))
  · exact hleaves hnow (readFrame_of_short_publication hcontent hkind (hlen ▸ hshort))
  · rw [← hlen, ← hargs] at hshort
    exact hleaves hnow ((readFrame_of_request hcontent hkind).trans (by rw [readRequest_of_short hshort]))
  · rw [← hlen, ← hargs] at hfit
    have hread : readFrame f.bytes = .request (natAt c 0 1) _ :=
      (readFrame_of_request hcontent hkind).trans (by rw [readRequest_of_fit hfit]; rfl)
    exact (hleaves hnow hread).trans (congrArg _ (if_neg (not_or.2 ⟨hown, hall⟩)))
  · exact hleaves hnow (readFrame_of_reply hcontent hkind)
  · exact hleaves hnow (readFrame_of_unknown hcontent hkind)

end Sys2Proof.Machine
end

section
/-! ## The tests of a configuration image, and what a good one brings into force (R161, R188, R189, section 12.6) -/

namespace Sys2Proof.Machine

set_option Elab.async false

/-! ### Bytes and the number they give (R196) -/

theorem fromBE_lt (bs : List Byte) : fromBE bs < 256 ^ bs.length := by
  induction bs with
  | nil => decide
  | cons b bs ih =>
    have hb : b.toNat < 256 := b.isLt
    rw [fromBE_cons, List.length_cons, pow_succ]
    nlinarith

/-- Equally many bytes that give the same number are the same. -/
theorem eq_of_fromBE_eq : ∀ {as bs : List Byte}, as.length = bs.length → fromBE as = fromBE bs → as = bs
  | [], [], _, _ => rfl
  | a :: as, b :: bs, hlen, h => by
    have htail : as.length = bs.length := Nat.succ.inj hlen
    rw [fromBE_cons, fromBE_cons, htail] at h
    have has : fromBE as < 256 ^ bs.length := htail ▸ fromBE_lt as
    have hdiv (x : Byte) {r : Nat} (hr : r < 256 ^ bs.length) : (x.toNat * 256 ^ bs.length + r) / 256 ^ bs.length = x.toNat := by
      rw [Nat.mul_comm, Nat.mul_add_div (by positivity), Nat.div_eq_of_lt hr, Nat.add_zero]
    have hhead : a.toNat = b.toNat := by rw [← hdiv a has, h, hdiv b (fromBE_lt bs)]
    rw [hhead] at h
    rw [BitVec.eq_of_toNat_eq hhead, eq_of_fromBE_eq htail (Nat.add_left_cancel h)]

/-- The number of the tag is that of its four letters (section 12.6). -/
theorem natAt_eq_imageTag_iff {bs : List Byte} (h : 4 ≤ bs.length) :
    natAt bs 0 4 = imageTag ↔ bs.take 4 = [0x4C, 0x54, 0x38, 0x31] := by
  have htag : imageTag = fromBE [0x4C, 0x54, 0x38, 0x31] := by decide
  rw [htag]
  exact ⟨eq_of_fromBE_eq (List.length_take_of_le h), congrArg fromBE⟩

/-! ### What is read of the flash (R188) -/

theorem readFlash_length (flash : List Byte) (n : Nat) : (readFlash flash n).length = n := by
  simp [readFlash]

/-- A flash that begins with an image gives it. -/
theorem readFlash_append {img : List Byte} {n : Nat} (h : img.length = n) (rest : List Byte) :
    readFlash (img ++ rest) n = img := by
  rw [readFlash, List.append_assoc, List.take_left' h]

theorem natAt_readFlash_append {img : List Byte} {off k n : Nat} (hn : off + k ≤ n) (himg : off + k ≤ img.length)
    (rest : List Byte) : natAt (readFlash (img ++ rest) n) off k = natAt img off k := by
  rw [natAt_readFlash _ hn himg, readFlash_append rfl]

/-! ### The tests of the feed entries (R188) -/

theorem repeats_eq_false_iff (xs : List Nat) : repeats xs = false ↔ xs.Nodup := by
  induction xs with
  | nil => simp [repeats]
  | cons x xs ih => simp [repeats, ih]

section Entries

variable {img : List Byte} {n : Nat} (hcount : natAt img 108 2 = n)

include hcount

theorem imageEntries_eq : imageEntries img = (List.range n).map (fun k => slice img (112 + 40 * k) 40) := by
  rw [imageEntries, imageFeeds, hcount]
  rfl

theorem imageEntries_any_eq_false_iff (bad : List Byte → Bool) :
    (imageEntries img).any bad = false ↔ ∀ k, k < n → bad (slice img (112 + 40 * k) 40) = false := by
  simp [imageEntries_eq hcount]

/-- A field that no two entries have in common repeats nowhere. -/
theorem imageEntries_repeats_eq_false_iff (key : List Byte → Nat) :
    repeats ((imageEntries img).map key) = false ↔
      ∀ j k, j < k → k < n → key (slice img (112 + 40 * j) 40) ≠ key (slice img (112 + 40 * k) 40) := by
  rw [repeats_eq_false_iff, imageEntries_eq hcount, List.map_map, List.Nodup, List.pairwise_map, List.pairwise_iff_getElem]
  simp only [List.length_range, List.getElem_range]
  exact ⟨fun h j k hjk hk => h j k (hjk.trans hk) hk hjk, fun h j k _ hk hjk => h j k hjk hk⟩

end Entries

theorem entryBadLine_eq_false_iff (e : List Byte) :
    entryBadLine e = false ↔ natAt e 1 1 ≤ 7 ∧ (natAt e 2 1 ≤ 7 ∨ natAt e 2 1 = 255) := by
  simp [entryBadLine, imp_iff_not_or]

/-- An absent B line is equal to no line there is. -/
theorem entrySameLines_eq_false_iff {e : List Byte} (hline : natAt e 1 1 ≤ 7) :
    entrySameLines e = false ↔ natAt e 1 1 ≠ natAt e 2 1 := by
  simp only [entrySameLines, Bool.and_eq_false_iff, decide_eq_false_iff_not]
  omega

/-! ### The first test that an image fails (R188) -/

theorem imageFault_of_tag {flash : List Byte} (h : natAt (readFlash flash 112) 0 4 ≠ imageTag) :
    imageFault flash = some .badTag := if_pos h

theorem imageFault_of_feeds {flash : List Byte} (htag : natAt (readFlash flash 112) 0 4 = imageTag)
    (h : 32 < natAt (readFlash flash 112) 108 2) : imageFault flash = some .badLength :=
  (if_neg (not_not.2 htag)).trans (if_pos (.inl h))

/-- The tests, of an image that stands whole at the start of the flash. -/
theorem imageFault_append {img : List Byte} {n : Nat} (hn : n ≤ 32) (hlen : img.length = 116 + 40 * n)
    (hcount : natAt img 108 2 = n) (rest : List Byte) :
    imageFault (img ++ rest) =
      if natAt img 0 4 ≠ imageTag then some .badTag
      else if natAt img 4 4 ≠ 116 + 40 * n then some .badLength
      else if (crc32 (img.take (112 + 40 * n))).toNat ≠ natAt img (112 + 40 * n) 4 then some .badCrc
      else if (imageEntries img).any entryBadLine then some .badLine
      else if (imageEntries img).any entrySameLines then some .sameLines
      else if repeats ((imageEntries img).map (fun e => natAt e 0 1)) then some .duplicateFeed
      else if repeats ((imageEntries img).map (fun e => natAt e 8 6)) then some .duplicateAddress
      else none := by
  have hhead {off k : Nat} (h : off + k ≤ 112) : natAt (readFlash (img ++ rest) 112) off k = natAt img off k :=
    natAt_readFlash_append h (by omega) rest
  have hfeeds : imageFeeds (readFlash (img ++ rest) 112) = n := (hhead (by decide)).trans hcount
  have hbefore : 116 + 40 * n - 4 = 112 + 40 * n := by omega
  simp only [imageFault, hfeeds, imageLength_eq, readFlash_append hlen rest, hbefore, Nat.not_lt.2 hn, false_or,
    show fixedBytes = 112 from rfl, hhead (off := 0) (k := 4) (by decide), hhead (off := 4) (k := 4) (by decide)]

/-! ### A field clamped (R189) -/

/-- The number of a field: its default for all ones, else the number nearest to what is written within its limits. -/
theorem numField_value {lo hi : Nat} (h : lo ≤ hi) (bs : List Byte) (off k default : Nat) :
    (numField bs off k default lo hi).value =
      if natAt bs off k = 256 ^ k - 1 then default else max lo (min (natAt bs off k) hi) := by
  simp only [numField]
  split_ifs <;> dsimp only <;> omega

theorem numField_changed (bs : List Byte) (off k default lo hi : Nat) :
    (numField bs off k default lo hi).changed =
      if natAt bs off k = 256 ^ k - 1 ∨ (lo ≤ natAt bs off k ∧ natAt bs off k ≤ hi) then 0 else 1 := by
  simp only [numField]
  split_ifs <;> grind

theorem typeField_eq (img : List Byte) : typeField img =
    ⟨if natAt img 10 2 < 1536 then 0x88B5 else natAt img 10 2, if natAt img 10 2 < 1536 then 1 else 0⟩ := by
  unfold typeField
  split <;> rfl

theorem enablesField_eq (img : List Byte) : enablesField img =
    ⟨if natAt img 40 4 = 4294967295 then BitVec.allOnes 15 else BitVec.ofNat 15 (natAt img 40 4),
      if 32768 ≤ natAt img 40 4 ∧ natAt img 40 4 ≠ 4294967295 then 1 else 0⟩ := by
  unfold enablesField
  dsimp only
  split <;> grind

/-! ### A feed entry (R189, section 12.6) -/

theorem widthField_eq (e : List Byte) : widthField e =
    ⟨if natAt e 3 1 = 4 then 4 else 8, if natAt e 3 1 ≠ 4 ∧ natAt e 3 1 ≠ 8 then 1 else 0⟩ := by
  unfold widthField
  split <;> grind

theorem orderField_eq (e : List Byte) : orderField e =
    ⟨if natAt e 4 1 = 2 then .little else .big, if natAt e 4 1 ≠ 1 ∧ natAt e 4 1 ≠ 2 then 1 else 0⟩ := by
  unfold orderField
  split <;> grind

theorem carriageField_eq (e : List Byte) : carriageField e =
    ⟨if natAt e 5 1 = 1 then .header else if natAt e 5 1 = 2 then .full else .none, if 2 < natAt e 5 1 then 1 else 0⟩ := by
  unfold carriageField
  split <;> grind

/-- An absent count offset is not clamped, and one above 63 is. -/
theorem countOffsetField_eq (e : List Byte) : countOffsetField e =
    ⟨if natAt e 7 1 = 255 then none else some (min (natAt e 7 1) 63), (numField e 7 1 0 0 63).changed⟩ := by
  unfold countOffsetField
  split
  next h => rw [numField_changed, if_pos (.inl (show natAt e 7 1 = 256 ^ 1 - 1 from h))]
  next h => rw [numField_value (Nat.zero_le _), if_neg (show natAt e 7 1 ≠ 256 ^ 1 - 1 from h), Nat.zero_max]

/-- The fields of an entry that are clamped or replaced, in the order of section 12.6. -/
theorem feedEntry_changed (e : List Byte) : (feedEntry e).changed =
    (numField e 6 1 0 0 63).changed + (if natAt e 3 1 ≠ 4 ∧ natAt e 3 1 ≠ 8 then 1 else 0) +
      (if natAt e 4 1 ≠ 1 ∧ natAt e 4 1 ≠ 2 then 1 else 0) + (if 2 < natAt e 5 1 then 1 else 0) +
      (numField e 7 1 0 0 63).changed + (numField e 16 4 2000 10 1000000).changed +
      (numField e 20 8 100000 1 4294967295).changed + (numField e 28 8 1000000 1 1099511627776).changed := by
  simp only [feedEntry, widthField_eq, orderField_eq, carriageField_eq, countOffsetField_eq]
  omega

theorem feedEntry_bLine_absent {e : List Byte} (h : natAt e 2 1 = 255) : (feedEntry e).value.bLine = none := if_pos h

theorem feedEntry_bLine_present {e : List Byte} (h : natAt e 2 1 ≠ 255) (hline : natAt e 2 1 ≤ 7) :
    (feedEntry e).value.bLine.map Fin.val = some (natAt e 2 1) := by
  have hb : (feedEntry e).value.bLine = some (Fin.ofNat 8 (natAt e 2 1)) := if_neg h
  rw [hb, Option.map_some, Fin.val_ofNat, Nat.mod_eq_of_lt (Nat.lt_succ_of_le hline)]

theorem readImage_feeds_length (img : List Byte) : (readImage img).feeds.length = natAt img 108 2 := by
  simp [readImage, imageEntries, imageFeeds]

theorem readImage_feed {img : List Byte} {k : Nat} (h : k < natAt img 108 2) :
    (readImage img).feeds[k]? = some (feedEntry (slice img (112 + 40 * k) 40)).value := by
  simp [readImage, imageEntries, imageFeeds, h, entryAt, fixedBytes, entryBytes]

/-! ### The lines, and what the lines and the entries add to the clamped-field count (R189) -/

theorem imageLines_get (img : List Byte) (i : Line) : (imageLines img).get i = lineFields img i.val := by
  fin_cases i <;> rfl

theorem imageLines_changed (img : List Byte) :
    ((imageLines img).map Clamped.changed).toList.sum = ((List.range 8).map (fun i => (lineFields img i).changed)).sum := rfl

theorem imageFeeds_changed (img : List Byte) :
    (((imageEntries img).map feedEntry).map Clamped.changed).sum =
      ((List.range (natAt img 108 2)).map (fun k => (feedEntry (slice img (112 + 40 * k) 40)).changed)).sum := by
  rw [imageEntries_eq rfl, List.map_map, List.map_map]
  rfl

/-- Settles O50: the tests in the statement's words and the first that fails; then each field by its own equation. -/
theorem imageTestsInOrder : Obligations.ImageTestsInOrder := by
  unfold Obligations.ImageTestsInOrder
  intro field clamps
  have hfield {lo hi : Nat} (h : lo ≤ hi) (bs : List Byte) (off k default : Nat) :
      (numField bs off k default lo hi).value = field bs off k default lo hi := numField_value h bs off k default
  have hclamps (bs : List Byte) (off k default lo hi : Nat) :
      (numField bs off k default lo hi).changed = clamps bs off k lo hi := numField_changed bs off k default lo hi
  refine ⟨fun flash => ?_, fun img rest n hn hlen hcount => ?_, fun img => ?_⟩
  · intro head
    have htag := natAt_eq_imageTag_iff (bs := head) (by rw [readFlash_length]; decide)
    exact ⟨fun h => imageFault_of_tag (mt htag.1 h), fun h hfeeds => imageFault_of_feeds (htag.2 h) hfeeds⟩
  · intro e tag size crc lines apart numbers groups fault
    have htag : natAt img 0 4 = imageTag ↔ tag := natAt_eq_imageTag_iff (by omega)
    have hlines : (imageEntries img).any entryBadLine = false ↔ lines := by
      simp only [imageEntries_any_eq_false_iff hcount, entryBadLine_eq_false_iff]
      rfl
    have hapart (h : lines) : (imageEntries img).any entrySameLines = false ↔ apart := by
      rw [imageEntries_any_eq_false_iff hcount]
      exact forall₂_congr fun k hk => entrySameLines_eq_false_iff (h k hk).1
    have hnumbers : repeats ((imageEntries img).map (fun e => natAt e 0 1)) = false ↔ numbers :=
      imageEntries_repeats_eq_false_iff hcount _
    have hgroups : repeats ((imageEntries img).map (fun e => natAt e 8 6)) = false ↔ groups :=
      imageEntries_repeats_eq_false_iff hcount _
    have hfault := imageFault_append hn hlen hcount rest
    refine ⟨fun h => hfault.trans (if_pos (mt htag.1 h)), fun ht h => ?_, fun ht hs h => ?_, fun ht hs hc h => ?_,
      fun ht hs hc hl => ?_⟩
    all_goals replace hfault := hfault.trans (if_neg (not_not.2 (htag.2 ht)))
    · exact hfault.trans (if_pos h)
    all_goals replace hfault := hfault.trans (if_neg (not_not.2 hs))
    · exact hfault.trans (if_pos (Ne.symm h))
    all_goals replace hfault := hfault.trans (if_neg (not_not.2 hc.symm))
    · exact hfault.trans (if_pos (eq_true_of_ne_false (mt hlines.1 h)))
    replace hfault := hfault.trans (if_neg (Bool.eq_false_iff.1 (hlines.2 hl)))
    refine ⟨fun h => hfault.trans (if_pos (eq_true_of_ne_false (mt (hapart hl).1 h))), fun ha h => ?_, fun ha hnum h => ?_,
      fun ha hnum hg => ?_⟩
    all_goals replace hfault := hfault.trans (if_neg (Bool.eq_false_iff.1 ((hapart hl).2 ha)))
    · exact hfault.trans (if_pos (eq_true_of_ne_false (mt hnumbers.1 h)))
    all_goals replace hfault := hfault.trans (if_neg (Bool.eq_false_iff.1 (hnumbers.2 hnum)))
    · exact hfault.trans (if_pos (eq_true_of_ne_false (mt hgroups.1 h)))
    refine ⟨hfault.trans (if_neg (Bool.eq_false_iff.1 (hgroups.2 hg))), readFlash_append hlen rest,
      (readImage_feeds_length img).trans hcount, fun k hk => ?_⟩
    intro x
    obtain ⟨hline, hother⟩ := hl k hk
    refine ⟨_, readImage_feed (hcount ▸ hk), rfl, rfl, rfl, Nat.mod_eq_of_lt (Nat.lt_succ_of_le hline), feedEntry_bLine_absent,
      fun hpresent => feedEntry_bLine_present hpresent (hother.resolve_right hpresent),
      congrArg Clamped.value (widthField_eq x), congrArg Clamped.value (orderField_eq x),
      congrArg Clamped.value (carriageField_eq x), hfield (by decide) .., congrArg Clamped.value (countOffsetField_eq x),
      hfield (by decide) .., hfield (by decide) .., hfield (by decide) ..⟩
  · intro c e one
    refine ⟨rfl, congrArg Clamped.value (typeField_eq img), rfl, hfield (by decide) .., hfield (by decide) ..,
      hfield (by decide) .., hfield (by decide) .., hfield (by decide) .., decide_eq_true_iff, hfield (by decide) ..,
      hfield (by decide) .., congrArg Clamped.value (enablesField_eq img), fun i => ?_, ?_⟩
    · exact (PerLine.get_map _ _ i).trans (by
        rw [imageLines_get, lineFields, hfield (by decide), hfield (by decide), hfield (by decide), hfield (by decide)])
    · simp only [readImage, imageLines_changed, imageFeeds_changed, feedEntry_changed, lineFields, typeField_eq,
        enablesField_eq, hclamps]
      rfl

end Sys2Proof.Machine
end

section
/-! ## Requests arrive, and SET_SECONDS hands its value over (R169 to R172, R178) -/

namespace Sys2Proof.Machine

set_option Elab.async false

/-! ### A response formed (R172) -/

theorem ReqHandler.respond_of_room {r : ReqHandler} (hroom : r.responses.length < 4) (p : Response) :
    r.respond p = { r with responses := r.responses ++ [p] } := if_pos hroom

theorem ReqHandler.respond_of_full {r : ReqHandler} (hfull : 4 ≤ r.responses.length) (p : Response) :
    r.respond p = { r with counts := { r.counts with unanswered := bump r.counts.unanswered } } :=
  if_neg (Nat.not_lt.2 hfull)

/-! ### A request arrives (R169) -/

theorem ReqHandler.arrive_of_room {r : ReqHandler} (hroom : r.queue.length < 2) (q : Request) :
    r.arrive q = { r with queue := r.queue ++ [q] } := if_pos hroom

theorem ReqHandler.arrive_of_full {r : ReqHandler} (hfull : 2 ≤ r.queue.length) (q : Request) :
    r.arrive q =
      ({ r with counts := { r.counts with busy := bump r.counts.busy } } : ReqHandler).respond (q.answer .busy []) :=
  if_neg (Nat.not_lt.2 hfull)

/-- A request for this station that is no RESTART is counted and arrives at the request queue. -/
theorem dispatch_request {straps : Fin 16} {s : State} {f : RxFrame} {rest : List RxFrame} {target : Nat} {q : Request}
    (hqueue : s.port.rxQueue = f :: rest) (hinbox : s.agr.inbox = none) (hread : readFrame f.bytes = .request target q)
    (htarget : target = s.loader.station ∨ target = 255) (hcode : q.code ≠ 10) :
    dispatch straps s = { s.headGone rest with
      req := ({ s.req with counts := { s.req.counts with received := bump s.req.counts.received } } : ReqHandler).arrive q } := by
  have hready : s.dispatchReady f.bytes = true := by
    simp [State.dispatchReady_iff, hinbox, frameKind_of_request hread]
  rw [dispatch_of_ready hqueue straps hready, hread]
  exact (if_pos htarget).trans (if_neg hcode)

/-- Settles O42: by the room in the request queue, and at a full one by the room in the response queue. -/
theorem requestsArrive : Obligations.RequestsArrive := by
  intro straps s f rest target q hqueue hinbox hread htarget hcode k busy after
  have harrives : exec (.dispatch straps) s = .next { s.headGone rest with
      req := ({ s.req with counts := k } : ReqHandler).arrive q } := by
    rw [exec_eq_effect, effect, dispatch_request hqueue hinbox hread htarget hcode]
  refine ⟨fun hroom => ?_, fun hfull hroom => ?_, fun hfull hlost => ?_⟩
  · rw [ReqHandler.arrive_of_room (r := { s.req with counts := k }) hroom] at harrives
    exact harrives
  · rw [ReqHandler.arrive_of_full (r := { s.req with counts := k }) hfull,
      ReqHandler.respond_of_room (r := { s.req with counts := busy }) hroom] at harrives
    exact harrives
  · rw [ReqHandler.arrive_of_full (r := { s.req with counts := k }) hfull,
      ReqHandler.respond_of_full (r := { s.req with counts := busy }) hlost] at harrives
    exact harrives

/-! ### SET_SECONDS at the head (R178) -/

/-- LISTEN, ACQUIRE and SERVING permit every request but MARK and CANCEL_MARK, which SERVING alone does (R171). -/
theorem permitted_of_open {st : StationState} (h : st = .listen ∨ st = .acquire ∨ st = .serving) {code : Nat}
    (hmark : code ≠ 6) (hcancel : code ≠ 7) : permitted st code = true := by
  rcases h with rfl | rfl | rfl <;> simp [permitted, hmark, hcancel]

section SetSeconds

variable {s : State} {q : Request} {rest : List Request} (hq : s.req.queue = q :: rest) (hcode : q.code = 5)
  (hopen : s.loader.state = .listen ∨ s.loader.state = .acquire ∨ s.loader.state = .serving)

include hq hcode hopen

theorem setSecondsRequest_eq : setSecondsRequest s =
    if Config.secondsModulus ≤ natAt q.args 0 8 then s.finish .badArgument []
    else if s.req.latch then s.finish .alreadySet []
    else if s.clock.pendingSeconds.isSome then s
    else s.handSeconds (natAt q.args 0 8) :=
  State.carryOut_of_head hq hcode (permitted_of_open hopen (by decide) (by decide)) _

theorem setSecondsRequest_of_range (hv : 281474976710655 < natAt q.args 0 8) :
    setSecondsRequest s = s.finish .badArgument [] := by
  exact (setSecondsRequest_eq hq hcode hopen).trans (if_pos (Nat.succ_le_of_lt hv))

theorem setSecondsRequest_of_latch (hv : natAt q.args 0 8 ≤ 281474976710655) (hlatch : s.req.latch = true) :
    setSecondsRequest s = s.finish .alreadySet [] := by
  have hin : ¬ Config.secondsModulus ≤ natAt q.args 0 8 := Nat.not_le.2 (Nat.lt_succ_of_le hv)
  rw [setSecondsRequest_eq hq hcode hopen, if_neg hin, if_pos hlatch]

theorem setSecondsRequest_hands (hv : natAt q.args 0 8 ≤ 281474976710655) (hlatch : s.req.latch = false)
    (hfree : s.clock.pendingSeconds = none) : setSecondsRequest s = s.handSeconds (natAt q.args 0 8) := by
  have hin : ¬ Config.secondsModulus ≤ natAt q.args 0 8 := Nat.not_le.2 (Nat.lt_succ_of_le hv)
  rw [setSecondsRequest_eq hq hcode hopen, if_neg hin, hlatch, hfree]
  rfl

end SetSeconds

/-- Settles O46. -/
theorem setSecondsHandsOver : Obligations.SetSecondsHandsOver := by
  intro s q rest hq hroom hcode hopen v answer
  rw [exec_eq_effect, effect]
  refine ⟨fun hv => ?_, fun hv hlatch => ?_, fun hv hlatch hfree => ?_⟩
  · rw [setSecondsRequest_of_range hq hcode hopen hv, State.finish_badArgument_of_room hq hroom]
    rfl
  · rw [setSecondsRequest_of_latch hq hcode hopen hv hlatch,
      State.finish_uncounted_of_room hq hroom (by decide) (by decide)]
    rfl
  · rw [setSecondsRequest_hands hq hcode hopen hv hlatch hfree]
    rfl

end Sys2Proof.Machine
end

section
/-! ## Raises, the alert enables and acknowledgements, and the test of the gate after each (R180 to R182, R184, R196) -/

namespace Sys2Proof.Machine

set_option Elab.async false

/-! ### The sets of conditions (R196) -/

/-- The bit of a condition is its place in the table of section 10.6. -/
theorem Condition.bit_eq_twoPow (c : Condition) : c.bit = BitVec.twoPow 15 c.ctorIdx := by
  cases c <;> rfl

/-- A condition that is set stays set when it is set once more. -/
theorem CondSet.or_bit_of_and_bit_ne_zero {x : CondSet} {c : Condition} (h : x &&& c.bit ≠ 0) : x ||| c.bit = x := by
  rw [Condition.bit_eq_twoPow, BitVec.and_twoPow] at h
  have hset : x.getLsbD c.ctorIdx = true := by
    by_contra hclear
    exact h (if_neg hclear)
  refine BitVec.eq_of_getLsbD_eq fun i _ => ?_
  rw [BitVec.getLsbD_or, Condition.bit_eq_twoPow, BitVec.getLsbD_twoPow]
  by_cases hi : c.ctorIdx = i
  · rw [← hi, hset, Bool.true_or]
  · simp [hi]

/-! ### A raise (R181) -/

/-- A raise of a clear condition (R181). -/
theorem ReqHandler.raise_of_clear {r : ReqHandler} {c : Condition} (h : r.set &&& c.bit = 0) :
    r.raise c = ({ r with set := r.set ||| c.bit, fresh := r.fresh ||| c.bit } : ReqHandler).gateTest := by
  rw [ReqHandler.raise, if_pos h]

/-- A raise of a condition already set is the test alone (R181). -/
theorem ReqHandler.raise_of_set {r : ReqHandler} {c : Condition} (h : r.set &&& c.bit ≠ 0) : r.raise c = r.gateTest := by
  rw [ReqHandler.raise, if_neg h, CondSet.or_bit_of_and_bit_ne_zero h]

/-! ### SET_ALERT_ENABLES and ACK_ALERTS (R180, R184) -/

theorem readSet_of_lt {args : List Byte} (h : natAt args 0 4 < 32768) :
    readSet args = some (BitVec.ofNat 15 (natAt args 0 4)) := if_pos h

theorem readSet_of_le {args : List Byte} (h : 32768 ≤ natAt args 0 4) : readSet args = none := if_neg (Nat.not_lt.2 h)

/-- A set read is written as it was read (R196). -/
theorem setBytes_ofNat {n : Nat} (h : n < 32768) : setBytes (BitVec.ofNat 15 n) = toBE 4 n := by
  rw [setBytes, BitVec.toNat_ofNat, Nat.mod_eq_of_lt h]

/-- The answer to an alert request is formed after the test that its effect ends with (R170, R172). -/
theorem State.finish_gateTest_of_room {s : State} {r : ReqHandler} {q : Request} {rest : List Request} (hq : r.queue = q :: rest)
    (hroom : r.responses.length < 4) (data : List Byte) :
    State.finish { s with req := r.gateTest } .ok data = { s with req := { r.gateTest with
      queue := rest, parts := [], responses := r.responses ++ [q.answer .ok data] } } := by
  rw [State.finish_ok_of_room (s := { s with req := r.gateTest }) (r.gateTest_queue.trans hq)
    (by rw [r.gateTest_responses]; exact hroom), r.gateTest_responses]

section Head

variable {s : State} {q : Request} {rest : List Request} (hq : s.req.queue = q :: rest)
  (hopen : s.loader.state = .listen ∨ s.loader.state = .acquire ∨ s.loader.state = .serving)

include hq hopen

theorem setAlertEnablesRequest_accepted (hcode : q.code = 8) (hn : natAt q.args 0 4 < 32768) :
    setAlertEnablesRequest s =
      State.finish { s with req := s.req.enable (BitVec.ofNat 15 (natAt q.args 0 4)) } .ok (toBE 4 (natAt q.args 0 4)) := by
  rw [setAlertEnablesRequest, State.carryOut_of_head hq hcode (permitted_of_open hopen (by decide) (by decide)),
    readSet_of_lt hn, ← setBytes_ofNat hn]

theorem setAlertEnablesRequest_refused (hcode : q.code = 8) (hn : 32768 ≤ natAt q.args 0 4) :
    setAlertEnablesRequest s = s.finish .badArgument [] := by
  rw [setAlertEnablesRequest, State.carryOut_of_head hq hcode (permitted_of_open hopen (by decide) (by decide)),
    readSet_of_le hn]

theorem ackAlertsRequest_accepted (hcode : q.code = 9) (hn : natAt q.args 0 4 < 32768) :
    ackAlertsRequest s =
      State.finish { s with req := s.req.acknowledge (BitVec.ofNat 15 (natAt q.args 0 4)) } .ok
        (toBE 4 (s.req.set &&& ~~~ BitVec.ofNat 15 (natAt q.args 0 4)).toNat) := by
  rw [ackAlertsRequest, State.carryOut_of_head hq hcode (permitted_of_open hopen (by decide) (by decide)), readSet_of_lt hn]
  simp only [setBytes, ReqHandler.acknowledge, ReqHandler.gateTest_set]

theorem ackAlertsRequest_refused (hcode : q.code = 9) (hn : 32768 ≤ natAt q.args 0 4) :
    ackAlertsRequest s = s.finish .badArgument [] := by
  rw [ackAlertsRequest, State.carryOut_of_head hq hcode (permitted_of_open hopen (by decide) (by decide)), readSet_of_le hn]

end Head

/-- Settles O47: the bits of the table; a raise by whether its condition is clear; each request by whether its set names
conditions, its answer formed after the test. -/
theorem alertsAndTheirGate : Obligations.AlertsAndTheirGate := by
  unfold Obligations.AlertsAndTheirGate
  intro tested
  have htested (r : ReqHandler) : r.gateTest = tested r := r.gateTest_eq
  refine ⟨by decide, fun r c => ⟨fun hclear => ?_, fun hset => ?_⟩, fun s q rest hq hroom hopen => ?_⟩
  · rw [← htested, ReqHandler.raise_of_clear hclear]
  · rw [← htested, ReqHandler.raise_of_set hset]
  intro n named answer refused
  have hanswer (r : ReqHandler) (hqueue : r.queue = s.req.queue) (hresponses : r.responses = s.req.responses) (data : List Byte) :
      State.finish { s with req := r.gateTest } .ok data = { s with req := answer (tested r) .ok data } := by
    rw [State.finish_gateTest_of_room (hqueue.trans hq) (by rw [hresponses]; exact hroom), hresponses, htested]
    rfl
  simp only [exec_eq_effect, effect]
  refine ⟨fun hcode hn => ?_, fun hcode hn => ?_, fun hcode hn => ?_, fun hcode hn => ?_⟩
  · rw [setAlertEnablesRequest_accepted hq hopen hcode hn]
    exact congrArg _ (hanswer { s.req with enabled := named } rfl rfl _)
  · rw [setAlertEnablesRequest_refused hq hopen hcode hn, State.finish_badArgument_of_room hq hroom]
    rfl
  · rw [ackAlertsRequest_accepted hq hopen hcode hn]
    exact congrArg _ (hanswer { s.req with
      set := s.req.set &&& ~~~ named, fresh := s.req.fresh &&& ~~~ named, gateOpen := true } rfl rfl _)
  · rw [ackAlertsRequest_refused hq hopen hcode hn, State.finish_badArgument_of_room hq hroom]
    rfl

end Sys2Proof.Machine
end

section
/-! ## CLEAR_COUNTS: each block zeroes its counters once, and the response when all have (R12, R33, R55, R73, R99, R120, R121, R134,
R156, R166, R167, R177) -/

namespace Sys2Proof.Machine

set_option Elab.async false

/-! ### Counters saturate (00 section 5.6) -/

theorem bumpBy_eq (k n : Nat) : bumpBy k n = if n + k ≤ 4294967295 then n + k else 4294967295 := Nat.min_def

theorem bump_eq (n : Nat) : bump n = if n < 4294967295 then n + 1 else 4294967295 := bumpBy_eq 1 n

/-! ### The blocks that take part (R177) -/

theorem countingBlocks_eq : countingBlocks = [.clock, .agreement, .line 0, .line 1, .line 2, .line 3, .line 4, .line 5,
    .line 6, .line 7, .classifier, .arbiter, .pool, .publisher, .port, .requests] := by decide

/-- Every block but the Loader has counters to zero. -/
theorem mem_countingBlocks_iff (b : Block) : b ∈ countingBlocks ↔ b ≠ .loader := by
  cases b <;> simp [countingBlocks, lineBlocks]

section ClearCounts

variable {s : State} {q : Request} {rest : List Request} (hq : s.req.queue = q :: rest) (hcode : q.code = 4)
  (hopen : s.loader.state = .listen ∨ s.loader.state = .acquire ∨ s.loader.state = .serving)

include hq hcode hopen

theorem clearCountsRequest_eq (part : Option Block) : clearCountsRequest part s =
    s.byBlocks countingBlocks part (fun b => (s.clearCounts b).addPart b []) [] :=
  State.carryOut_of_head hq hcode (permitted_of_open hopen (by decide) (by decide)) _

theorem clearCountsRequest_takes {b : Block} (hb : b ≠ .loader) (hnew : ¬ ∃ p ∈ s.req.parts, p.block = b) :
    clearCountsRequest (some b) s = (s.clearCounts b).addPart b [] := by
  rw [clearCountsRequest_eq hq hcode hopen]
  exact if_pos ⟨(mem_countingBlocks_iff b).2 hb, Bool.eq_false_iff.2 (mt (s.req.took_iff b).1 hnew)⟩

theorem clearCountsRequest_passes {b : Block} (hb : b = .loader ∨ ∃ p ∈ s.req.parts, p.block = b) :
    clearCountsRequest (some b) s = s := by
  rw [clearCountsRequest_eq hq hcode hopen]
  refine if_neg fun ⟨hmem, hnew⟩ => ?_
  exact Bool.eq_false_iff.1 hnew ((s.req.took_iff b).2 (hb.resolve_left ((mem_countingBlocks_iff b).1 hmem)))

theorem clearCountsRequest_waits (h : ∃ b ∈ countingBlocks, ¬ ∃ p ∈ s.req.parts, p.block = b) :
    clearCountsRequest none s = s := by
  rw [clearCountsRequest_eq hq hcode hopen]
  obtain ⟨b, hb, hnew⟩ := h
  exact if_neg fun hall => hnew ((s.req.took_iff b).1 (List.all_eq_true.1 hall b hb))

theorem clearCountsRequest_forms (h : ∀ b ∈ countingBlocks, ∃ p ∈ s.req.parts, p.block = b) :
    clearCountsRequest none s = s.finish .ok [] := by
  rw [clearCountsRequest_eq hq hcode hopen]
  exact if_pos (List.all_eq_true.2 fun b hb => (s.req.took_iff b).2 (h b hb))

end ClearCounts

/-- Settles O45: the two saturating raises; then each block's event, which is `State.clearCounts` at that block, and the response. -/
theorem clearCountsZeroes : Obligations.ClearCountsZeroes := by
  refine ⟨bump_eq, bumpBy_eq, fun s q rest hq hcode hopen => ?_⟩
  intro took req order
  have htakes {b : Block} (hb : b ≠ .loader) (hnew : ¬ took b) :
      exec (.clearCounts (some b)) s = .next ((s.clearCounts b).addPart b []) := by
    rw [exec_eq_effect, effect, clearCountsRequest_takes hq hcode hopen hb hnew]
  have horder : order = countingBlocks := countingBlocks_eq.symm
  refine ⟨fun b hb => ?_, htakes nofun, htakes nofun, fun i => htakes nofun, htakes nofun, htakes nofun, htakes nofun,
    htakes nofun, htakes nofun, htakes nofun, fun hwaits => ?_, fun hall hroom => ?_⟩
  · rw [exec_eq_effect, effect, clearCountsRequest_passes hq hcode hopen hb]
  · rw [horder] at hwaits
    rw [exec_eq_effect, effect, clearCountsRequest_waits hq hcode hopen hwaits]
  · rw [horder] at hall
    rw [exec_eq_effect, effect, clearCountsRequest_forms hq hcode hopen hall, State.finish_ok_of_room hq hroom]
    rfl

end Sys2Proof.Machine
end

section
/-! ## Refused requests, and answers that meet a full response queue (R170 to R173) -/

namespace Sys2Proof.Machine

set_option Elab.async false

/-! ### An answer that meets a full response queue (R172) -/

/-- The Request Handler with its response queue empty. -/
def ReqHandler.drained (r : ReqHandler) : ReqHandler := { r with responses := [] }

/-- The station with its response queue empty. -/
def State.drained (s : State) : State := { s with req := s.req.drained }

/-- What a station that began with an empty response queue is with the full queue `rs` in its place: a response formed meanwhile is
one unanswered more. -/
def State.overfull (t : State) (rs : List Response) : State :=
  { t with req := { t.req with
    responses := rs,
    counts := { t.req.counts with
      unanswered := if t.req.responses = [] then t.req.counts.unanswered else bump t.req.counts.unanswered } } }

/-- The request at the head answered into a full queue (R170, R172). -/
theorem ReqHandler.finish_of_full {r : ReqHandler} {q : Request} {rest : List Request} (hq : r.queue = q :: rest)
    (hfull : 4 ≤ r.responses.length) (res : Result) (data : List Byte) :
    r.finish res data = { r with
      queue := rest, parts := [],
      counts := { r.counts with
        wrongState := if res = Result.wrongState then bump r.counts.wrongState else r.counts.wrongState,
        badArgument := if res = Result.badArgument then bump r.counts.badArgument else r.counts.badArgument,
        unanswered := bump r.counts.unanswered } } := by
  simp [ReqHandler.finish, hq, ReqHandler.respond, Config.responseLimit, Nat.not_lt.2 hfull]

/-- The test of the gate does not look at the responses. -/
theorem ReqHandler.gateTest_drained (r : ReqHandler) : r.drained.gateTest = r.gateTest.drained := by
  rw [r.gateTest_eq, apply_ite ReqHandler.drained]
  exact r.drained.gateTest_eq

section Full

variable {s : State} (hfull : 4 ≤ s.req.responses.length)

include hfull

/-- The response that the empty queue takes is lost at the full one. -/
theorem State.finish_overfull (res : Result) (data : List Byte) :
    s.finish res data = (s.drained.finish res data).overfull s.req.responses := by
  cases hq : s.req.queue with
  | nil =>
    have hidle (r : ReqHandler) (h : r.queue = []) : r.finish res data = r := by simp only [ReqHandler.finish, h]
    rw [State.finish, State.finish, hidle _ hq, hidle s.drained.req hq]
    rfl
  | cons q rest =>
    rw [State.finish, State.finish, ReqHandler.finish_of_full hq hfull,
      ReqHandler.finish_of_room (r := s.drained.req) hq (Nat.zero_lt_succ 3)]
    rfl

theorem State.finish_pub_overfull (p : Publisher) (res : Result) (data : List Byte) :
    State.finish { s with pub := p } res data = (State.finish { s.drained with pub := p } res data).overfull s.req.responses :=
  State.finish_overfull (s := { s with pub := p }) hfull res data

theorem State.finish_req_overfull {r : ReqHandler} (hr : r.responses = s.req.responses) (data : List Byte) :
    State.finish { s with req := r } .ok data = (State.finish { s with req := r.drained } .ok data).overfull s.req.responses := by
  rw [← hr] at hfull ⊢
  exact State.finish_overfull (s := { s with req := r }) hfull .ok data

/-- A request command at a full queue does what its acts do there. -/
theorem State.carryOut_overfull (code : Nat) {act empty : Request → State}
    (hact : ∀ q, act q = (empty q).overfull s.req.responses) :
    s.carryOut code act = (s.drained.carryOut code empty).overfull s.req.responses := by
  have hqueue : s.drained.req.queue = s.req.queue := rfl
  have hstate : s.drained.loader = s.loader := rfl
  unfold State.carryOut
  rw [hqueue, hstate]
  cases s.req.queue with
  | nil => rfl
  | cons q rest =>
    dsimp only
    split
    · split
      · exact hact q
      · exact State.finish_overfull hfull _ _
    · rfl

theorem feedReportRequest_overfull :
    feedReportRequest s = (feedReportRequest s.drained).overfull s.req.responses := by
  refine State.carryOut_overfull hfull _ fun q => ?_
  have hfeeds : s.drained.feeds = s.feeds := rfl
  rw [hfeeds]
  split
  · exact State.finish_overfull hfull _ _
  · split <;> exact State.finish_overfull hfull _ _

/-- Of a STATUS or a CLEAR_COUNTS carried out block by block the response alone meets the queue. -/
theorem State.byBlocks_overfull (blocks : List Block) (part : Option Block) {take empty : Block → State} (data : List Byte)
    (htake : ∀ b, part = some b → take b = (empty b).overfull s.req.responses) :
    s.byBlocks blocks part take data = (s.drained.byBlocks blocks part empty data).overfull s.req.responses := by
  have htook : s.drained.req.took = s.req.took := rfl
  unfold State.byBlocks
  rw [htook]
  cases part with
  | none =>
    dsimp only
    split
    · exact State.finish_overfull hfull _ _
    · rfl
  | some b =>
    dsimp only
    split
    · exact htake b rfl
    · rfl

theorem status_none_overfull : status none s = (status none s.drained).overfull s.req.responses :=
  State.carryOut_overfull hfull _ fun _ => State.byBlocks_overfull hfull _ _ _ nofun

theorem clearCountsRequest_overfull (part : Option Block) :
    clearCountsRequest part s = (clearCountsRequest part s.drained).overfull s.req.responses :=
  State.carryOut_overfull hfull _ fun _ => State.byBlocks_overfull hfull _ _ _ fun b _ => by cases b <;> rfl

theorem setSecondsRequest_overfull :
    setSecondsRequest s = (setSecondsRequest s.drained).overfull s.req.responses := by
  refine State.carryOut_overfull hfull _ fun q => ?_
  have hreq : s.drained.req.latch = s.req.latch := rfl
  have hclock : s.drained.clock = s.clock := rfl
  rw [hreq, hclock]
  split
  · exact State.finish_overfull hfull _ _
  · split
    · exact State.finish_overfull hfull _ _
    · split <;> rfl

theorem secondsWrite_overfull : secondsWrite s = (secondsWrite s.drained).overfull s.req.responses := by
  have hclock : s.drained.clock = s.clock := rfl
  have htest (v : Nat) : secondsAccepted s.drained v = secondsAccepted s v := rfl
  unfold secondsWrite
  rw [hclock]
  split
  · rfl
  next p _ =>
    rw [htest]
    split
    · split
      · let t : State := { s with clock := s.clock.applySeconds p.value, req := { s.req with latch := true } }
        exact State.finish_overfull (s := t.discardSamples) hfull _ _
      · exact State.finish_overfull (s := { s with clock := { s.clock with pendingSeconds := none } }) hfull _ _
    · rfl

theorem markRequest_overfull : markRequest s = (markRequest s.drained).overfull s.req.responses := by
  refine State.carryOut_overfull hfull _ fun q => ?_
  split
  · exact State.finish_pub_overfull hfull _ _ _
  · exact State.finish_overfull hfull _ _

theorem cancelMarkRequest_overfull :
    cancelMarkRequest s = (cancelMarkRequest s.drained).overfull s.req.responses := by
  refine State.carryOut_overfull hfull _ fun _ => ?_
  have hpub : s.drained.pub = s.pub := rfl
  rw [hpub]
  split
  · exact State.finish_pub_overfull hfull _ _ _
  · exact State.finish_overfull hfull _ _

theorem setAlertEnablesRequest_overfull :
    setAlertEnablesRequest s = (setAlertEnablesRequest s.drained).overfull s.req.responses := by
  refine State.carryOut_overfull hfull _ fun _ => ?_
  split
  next e _ =>
    have henable : s.drained.req.enable e = (s.req.enable e).drained := ReqHandler.gateTest_drained { s.req with enabled := e }
    rw [henable]
    exact State.finish_req_overfull hfull (r := s.req.enable e) (ReqHandler.gateTest_responses _) _
  · exact State.finish_overfull hfull _ _

theorem ackAlertsRequest_overfull :
    ackAlertsRequest s = (ackAlertsRequest s.drained).overfull s.req.responses := by
  refine State.carryOut_overfull hfull _ fun _ => ?_
  split
  next e _ =>
    have hacknowledge : s.drained.req.acknowledge e = (s.req.acknowledge e).drained := ReqHandler.gateTest_drained { s.req with
      set := s.req.set &&& ~~~ e, fresh := s.req.fresh &&& ~~~ e, gateOpen := true }
    rw [hacknowledge]
    exact State.finish_req_overfull hfull (r := s.req.acknowledge e) (ReqHandler.gateTest_responses _) _
  · exact State.finish_overfull hfull _ _

theorem unknownRequest_overfull : unknownRequest s = (unknownRequest s.drained).overfull s.req.responses := by
  have hqueue : s.drained.req.queue = s.req.queue := rfl
  unfold unknownRequest
  rw [hqueue]
  split
  · rfl
  · split
    · rfl
    · exact State.finish_overfull hfull _ _

end Full

/-- Every command that can answer a request at the head does at a full response queue what it does at an empty one, but for the
response. -/
theorem effect_overfull {c : Instr} {s : State} (hfull : 4 ≤ s.req.responses.length)
    (hc : c = .feedReport ∨ c = .peerReport ∨ c = .status none ∨ (∃ b, c = .clearCounts b) ∨ c = .setSeconds ∨
      c = .secondsWrite ∨ c = .mark ∨ c = .cancelMark ∨ c = .setAlertEnables ∨ c = .ackAlerts ∨ c = .unknownRequest) :
    effect c s = (effect c s.drained).overfull s.req.responses := by
  rcases hc with rfl | rfl | rfl | ⟨part, rfl⟩ | rfl | rfl | rfl | rfl | rfl | rfl | rfl
  · exact feedReportRequest_overfull hfull
  · exact State.carryOut_overfull hfull _ fun _ => State.finish_overfull hfull _ _
  · exact status_none_overfull hfull
  · exact clearCountsRequest_overfull hfull part
  · exact setSecondsRequest_overfull hfull
  · exact secondsWrite_overfull hfull
  · exact markRequest_overfull hfull
  · exact cancelMarkRequest_overfull hfull
  · exact setAlertEnablesRequest_overfull hfull
  · exact ackAlertsRequest_overfull hfull
  · exact unknownRequest_overfull hfull

/-! ### The refusals (R170, R171) -/

/-- LOADING, HALTED and CONFLICT permit STATUS alone (R171). -/
theorem permitted_of_shut {st : StationState} (h : st = .loading ∨ st = .halted ∨ st = .conflict) {code : Nat}
    (hcode : code ≠ 1) : permitted st code = false := by
  rcases h with rfl | rfl | rfl <;> simp [permitted, hcode]

/-- LISTEN and ACQUIRE permit no MARK and no CANCEL_MARK (R171). -/
theorem permitted_of_unready {st : StationState} (h : st = .listen ∨ st = .acquire) {code : Nat} (hcode : code = 6 ∨ code = 7) :
    permitted st code = false := by
  rcases h with rfl | rfl <;> rcases hcode with rfl | rfl <;> rfl

section Refused

variable {s : State} {q : Request} {rest : List Request} (hq : s.req.queue = q :: rest)

include hq

/-- The test of the station state refuses the head (R170). -/
theorem State.carryOut_refused {code : Nat} (hcode : q.code = code) (hstate : permitted s.loader.state code = false)
    (act : Request → State) : s.carryOut code act = s.finish .wrongState [] := by
  simp [State.carryOut, hq, hcode, hstate]

/-- Whatever request the state does not permit is refused by the command that would carry it out. -/
theorem effect_refused {c : Instr} (hstate : permitted s.loader.state q.code = false)
    (hc : (c = .feedReport ∧ q.code = 2) ∨ (c = .peerReport ∧ q.code = 3) ∨ (∃ b, c = .clearCounts b ∧ q.code = 4) ∨
      (c = .setSeconds ∧ q.code = 5) ∨ (c = .mark ∧ q.code = 6) ∨ (c = .cancelMark ∧ q.code = 7) ∨
      (c = .setAlertEnables ∧ q.code = 8) ∨ (c = .ackAlerts ∧ q.code = 9)) :
    effect c s = s.finish .wrongState [] := by
  rcases hc with ⟨rfl, hcode⟩ | ⟨rfl, hcode⟩ | ⟨part, rfl, hcode⟩ | ⟨rfl, hcode⟩ | ⟨rfl, hcode⟩ | ⟨rfl, hcode⟩ |
    ⟨rfl, hcode⟩ | ⟨rfl, hcode⟩
  all_goals exact State.carryOut_refused hq hcode (hcode ▸ hstate) _

theorem unknownRequest_refused (hcode : q.code = 0 ∨ 10 < q.code) : unknownRequest s = s.finish .badArgument [] := by
  have hunknown : ¬ knownCode q.code = true := by
    simp only [knownCode, Bool.and_eq_true, decide_eq_true_iff]
    omega
  simp only [unknownRequest, hq, if_neg hunknown]

/-- When every part has come back the response is formed, in every station state (R175). -/
theorem status_finishes (hcode : q.code = 1) (h : ∀ b ∈ statusBlocks, ∃ p ∈ s.req.parts, p.block = b) :
    status none s = s.finish .ok (stationReport s.req.parts) := by
  rw [status_eq hq hcode]
  exact if_pos (List.all_eq_true.2 fun b hb => (s.req.took_iff b).2 (h b hb))

theorem State.finish_of_full (hfull : 4 ≤ s.req.responses.length) (res : Result) (data : List Byte) :
    s.finish res data = { s with req := { s.req with
      queue := rest, parts := [],
      counts := { s.req.counts with
        wrongState := if res = Result.wrongState then bump s.req.counts.wrongState else s.req.counts.wrongState,
        badArgument := if res = Result.badArgument then bump s.req.counts.badArgument else s.req.counts.badArgument,
        unanswered := bump s.req.counts.unanswered } } } := by
  rw [State.finish, ReqHandler.finish_of_full hq hfull]

end Refused

/-- A RESTART in LOADING is refused, and the refusal lost at a full response queue (R172, R173). -/
theorem State.restartArrives_refused {s : State} {rest : List RxFrame} (hloading : s.loader.state = .loading)
    (hfull : 4 ≤ s.req.responses.length) (q : Request) (straps : Fin 16) :
    (s.restartReceived rest).restartArrives q straps = { s with
      port := { s.port with rxQueue := rest },
      req := { s.req with counts := { s.req.counts with
        received := bump s.req.counts.received, wrongState := bump s.req.counts.wrongState,
        unanswered := bump s.req.counts.unanswered } } } := by
  refine (if_pos hloading).trans ?_
  rw [ReqHandler.respond_of_full (by exact hfull)]
  rfl

/-- Settles O48: the general clause by `effect_overfull`; a RESTART in LOADING; each refusal by the room for its answer. -/
theorem requestsRefused : Obligations.RequestsRefused := by
  refine ⟨fun c s hfull hc => ?_, fun straps s f rest target q hqueue hinbox hread htarget hcode hloading hfull => ?_,
    fun s q rest hq => ?_⟩
  · refine ⟨effect c s.drained, exec_eq_effect c s.drained, ?_⟩
    rw [exec_eq_effect, effect_overfull hfull hc]
    rfl
  · rw [exec_eq_effect, effect, dispatch_restart hqueue hinbox hread htarget hcode,
      State.restartArrives_refused hloading hfull]
  intro wrong bad answer lost shut
  refine ⟨fun c hc hstate => ?_, fun hcode => ?_, fun hcode hall hfull => ?_⟩
  · have hrefused : permitted s.loader.state q.code = false := by
      rcases hstate with hshut | ⟨hmark, hopen⟩
      · exact permitted_of_shut hshut (by omega)
      · refine permitted_of_unready hopen ?_
        rcases hmark with rfl | rfl
        · exact .inl (by simpa using hc)
        · exact .inr (by simpa using hc)
    rw [exec_eq_effect, effect_refused hq hrefused hc]
    refine ⟨fun hroom => ?_, fun hfull => ?_⟩
    · rw [State.finish, ReqHandler.finish_of_room hq hroom]
      rfl
    · rw [State.finish_of_full hq hfull]
      rfl
  · rw [exec_eq_effect, effect, unknownRequest_refused hq hcode]
    refine ⟨fun hroom => ?_, fun hfull => ?_⟩
    · rw [State.finish_badArgument_of_room hq hroom]
      rfl
    · rw [State.finish_of_full hq hfull]
      rfl
  · rw [exec_eq_effect, effect, status_finishes hq hcode hall, State.finish_of_full hq hfull]
    rfl

end Sys2Proof.Machine
end

section
/-! ## The station state changes at the events of R186 and at no others

Each command that can reach the Loader's state is asked, where it leaves the state changed, from which state to which, and at what
event; every other command leaves the Loader alone. -/

namespace Sys2Proof.Machine

set_option Elab.async false

/-! ### The step and the round end (R52, R53) -/

/-- Only the step that ACQUIRE waits for changes the station state (R53). -/
theorem clockStep_changesState {s : State} (h : s.StateSound) (hne : (clockStep s).loader.state ≠ s.loader.state) :
    s.loader.state = .acquire ∧ (clockStep s).loader.state = .serving := by
  rcases hstep : s.clock.pendingStep with - | ⟨c, - | -⟩
  case none => exact absurd (by rw [clockStep_of_none hstep]) hne
  case some.false => exact absurd (by rw [clockStep_of_early hstep]) hne
  case some.true =>
    cases hcls : s.agr.servingAfterStep with
    | none => exact absurd (by rw [clockStep_stays hstep hcls]; rfl) hne
    | some cls =>
      refine ⟨(s.stateSound_iff.1 h).2.wait (by rw [hcls]; rfl), ?_⟩
      rw [clockStep_enters hstep hcls]
      rfl

/-- A round end in LISTEN changes the state when the count of rounds reaches 3 (R52). -/
theorem State.roundInListen_changesState {s : State} (hne : s.roundInListen.loader.state ≠ s.loader.state) :
    s.roundInListen.loader.state = .acquire ∧ 3 ≤ s.roundInListen.agr.roundCount := by
  unfold State.roundInListen at hne ⊢
  by_cases hthird : 3 ≤ s.agr.roundCount + 1
  · simp only [if_pos hthird]
    exact ⟨trivial, hthird⟩
  · simp only [if_neg hthird] at hne
    exact absurd rfl hne

/-- The round end of ACQUIRE changes the state when it asks for no step (R53). -/
theorem State.roundInAcquire_changesState {s : State} {corr : Option Int} {cls : AgreementState}
    (hne : (s.roundInAcquire corr cls).loader.state ≠ s.loader.state) :
    (s.roundInAcquire corr cls).loader.state = .serving := by
  cases corr with
  | none => rfl
  | some c => exact absurd rfl hne

theorem roundEnd_changesState {s : State} (hne : (roundEnd s).loader.state ≠ s.loader.state) :
    (s.loader.state = .listen ∧ (roundEnd s).loader.state = .acquire ∧ 3 ≤ (roundEnd s).agr.roundCount) ∨
      (s.loader.state = .acquire ∧ (roundEnd s).loader.state = .serving) := by
  by_cases hdue : due s.agr.roundTimer s.clock.tick = true
  · cases hs : s.loader.state <;> simp only [roundEnd, if_pos hdue, hs] at hne ⊢
    case listen =>
      exact .inl ⟨trivial, State.roundInListen_changesState (s := s.storeRound s.round) (hne.trans_eq hs.symm)⟩
    case acquire =>
      exact .inr ⟨trivial, State.roundInAcquire_changesState (s := s.storeRound s.round) (hne.trans_eq hs.symm)⟩
    all_goals exact absurd hs hne
  · exact absurd (by rw [roundEnd, if_neg hdue]) hne

/-! ### A conflicting beacon (R38) -/

/-- A beacon that bears another number, or no smaller identity, leaves the Loader alone (R38, R40). -/
theorem State.hearBeacon_loader {s : State} {b : BeaconIn}
    (hno : ¬ (b.beacon.station = s.loader.station ∧ b.beacon.identity < s.loader.identity)) :
    (s.hearBeacon b).loader = s.loader := by
  unfold State.hearBeacon
  dsimp only
  split
  next hown =>
    rw [if_neg fun hid => hno ⟨hown, hid⟩]
    split <;> rfl
  next =>
    repeat' split
    all_goals rfl

theorem beaconTaken_changesState {s : State} (hne : (beaconTaken s).loader.state ≠ s.loader.state) :
    ∃ x, s.agr.inbox = some x ∧ x.beacon.station = s.loader.station ∧ x.beacon.identity < s.loader.identity ∧
      (s.loader.state = .listen ∨ s.loader.state = .acquire ∨ s.loader.state = .serving) ∧
      (beaconTaken s).loader.state = .conflict := by
  cases hb : s.agr.inbox with
  | none => exact absurd (by simp only [beaconTaken, hb]) hne
  | some x =>
    by_cases hs : s.loader.state.beacons = true
    · rw [beaconTaken_heard hb hs] at hne ⊢
      by_cases hconflict : x.beacon.station = s.loader.station ∧ x.beacon.identity < s.loader.identity
      · obtain ⟨hown, hid⟩ := hconflict
        refine ⟨x, rfl, hown, hid, s.loader.state.beacons_iff.1 hs, ?_⟩
        rw [State.hearBeacon_yields (s := s.inboxTaken) hown hid, State.enterConflict_loader]
      · exact absurd (congrArg Loader.state (State.hearBeacon_loader (s := s.inboxTaken) hconflict)) hne
    · exact absurd (by rw [beaconTaken_discarded hb hs]; rfl) hne

/-! ### A RESTART dispatched (R173) -/

/-- Whatever the head of the receive queue is, other than a RESTART, it leaves the Loader alone (R165). -/
theorem State.deliver_loader {s : State} {f : RxFrame} {d : Dispatched} {straps : Fin 16}
    (hno : ∀ target q, d = .request target q → q.code ≠ restartCode) : (s.deliver f d straps).loader = s.loader := by
  cases d with
  | request target q =>
    unfold State.deliver State.requestArrives
    dsimp only
    rw [if_neg (hno target q rfl)]
    split <;> rfl
  | publication station identity number records =>
    unfold State.deliver State.checkNumber State.handFrame
    dsimp only
    repeat' split
    all_goals rfl
  | _ => rfl

/-- A RESTART alone, outside LOADING, changes the state (R173). -/
theorem State.deliver_changesState {s : State} {f : RxFrame} {d : Dispatched} {straps : Fin 16}
    (hne : (s.deliver f d straps).loader.state ≠ s.loader.state) :
    ∃ target q, d = .request target q ∧ q.code = 10 ∧ s.loader.state ≠ .loading ∧
      (s.deliver f d straps).loader.state = .loading := by
  by_cases hrestart : ∃ target q, d = .request target q ∧ q.code = restartCode
  · obtain ⟨target, q, hread, hcode⟩ := hrestart
    rcases s.deliver_cases f d straps with hsame | ⟨hs, req, e⟩
    · exact absurd (congrArg Loader.state (hsame.loader rfl)) hne
    · exact ⟨target, q, hread, hcode, hs, by rw [e, State.restart_loader]⟩
  · have hno (target q) (hread : d = .request target q) : q.code ≠ restartCode := fun hcode => hrestart ⟨target, q, hread, hcode⟩
    have hloader : (s.deliver f d straps).loader = s.loader := State.deliver_loader hno
    exact absurd (congrArg Loader.state hloader) hne

theorem dispatch_changesState {straps : Fin 16} {s : State} (hne : (dispatch straps s).loader.state ≠ s.loader.state) :
    ∃ f q target rest, s.port.rxQueue = f :: rest ∧ readFrame f.bytes = .request target q ∧ q.code = 10 ∧
      s.loader.state ≠ .loading ∧ (dispatch straps s).loader.state = .loading := by
  cases hqueue : s.port.rxQueue with
  | nil => exact absurd (by simp only [dispatch, hqueue]) hne
  | cons f rest =>
    by_cases hready : s.dispatchReady f.bytes = true
    · rw [dispatch_of_ready hqueue straps hready] at hne ⊢
      obtain ⟨target, q, hread, hcode, hs, hloading⟩ := State.deliver_changesState (s := s.headGone rest) hne
      exact ⟨f, q, target, rest, rfl, hread, hcode, hs, hloading⟩
    · exact absurd (by rw [dispatch_of_waits hqueue straps hready]) hne

/-! ### The end of the image read (R188, R190) -/

theorem imageReadDone_changesState {flash : List Byte} {s : State}
    (hne : (imageReadDone flash s).loader.state ≠ s.loader.state) :
    s.loader.state = .loading ∧
      ((imageFault flash = none ∧ (imageReadDone flash s).loader.state = .listen) ∨
        (imageFault flash ≠ none ∧ (imageReadDone flash s).loader.state = .halted)) := by
  by_cases hs : s.loader.state = .loading
  · refine ⟨hs, ?_⟩
    cases himage : imageFault flash with
    | none => exact .inl ⟨rfl, by rw [imageReadDone_of_sound hs himage]; rfl⟩
    | some cause => exact .inr ⟨nofun, by rw [imageReadDone_of_fault hs himage]; rfl⟩
  · exact absurd (by rw [imageReadDone, if_neg hs]) hne

/-- Settles O58: a command that leaves the Loader alone changes no station state; each of the others by its own lemma. -/
theorem stationStateChanges : Obligations.StationStateChanges := by
  intro c s t h hexec hne a b
  rw [exec_eq_effect] at hexec
  cases hexec
  by_cases hloader : (touched c).loader = false
  · exact absurd (congrArg Loader.state ((effect_sameBut c s).loader hloader)) hne
  cases c
  case powerOn straps => exact .inl ⟨straps, rfl, rfl⟩
  case imageReadDone flash => exact .inr (.inl ⟨flash, rfl, imageReadDone_changesState hne⟩)
  case roundEnd =>
    rcases roundEnd_changesState hne with hthird | hlast
    · exact .inr (.inr (.inl ⟨rfl, hthird⟩))
    · exact .inr (.inr (.inr (.inl ⟨.inl rfl, hlast⟩)))
  case clockStep => exact .inr (.inr (.inr (.inl ⟨.inr rfl, clockStep_changesState h hne⟩)))
  case beaconTaken =>
    obtain ⟨x, hinbox, hconflict⟩ := beaconTaken_changesState hne
    exact .inr (.inr (.inr (.inr (.inl ⟨x, rfl, hinbox, hconflict⟩))))
  case dispatch straps =>
    obtain ⟨f, q, target, rest, hrestart⟩ := dispatch_changesState hne
    exact .inr (.inr (.inr (.inr (.inr ⟨straps, f, q, target, rest, rfl, hrestart⟩))))
  all_goals exact absurd rfl hloader

end Sys2Proof.Machine
end

section
/-! ## The step, and what every command keeps of the queue

A step splits on the queue of waiting commands. Every command answers a next state, the one `effect` names, and touches no more
than its blocks, so the queue stays. -/

namespace Sys2Proof.Machine

theorem step_of_pending_nil {s : State} (h : s.pending = []) : step s = .next s := by
  simp only [step, h]

theorem step_of_pending_cons {c : Instr} {cs : List Instr} {s : State} (h : s.pending = c :: cs) :
    step s = exec c (s.withPending cs) := by
  simp only [step, h]

/-- Settles O1, by the two cases of the queue. -/
theorem stepRunsFrontCommand : Obligations.StepRunsFrontCommand :=
  ⟨fun _ _ _ hfront => step_of_pending_cons hfront, fun _ hempty => step_of_pending_nil hempty⟩

/-- Settles O2: the next state is the command's effect, which keeps the queue as it keeps each block the command does not touch. -/
theorem commandsCompleteAndLeaveTheQueue : Obligations.CommandsCompleteAndLeaveTheQueue := fun c s =>
  ⟨effect c s, exec_eq_effect c s, (effect_sameBut c s).pending⟩

end Sys2Proof.Machine
end
